-- ==== Sys2Proof/Word.lean ====
section
/-! DEFINITION. The word types of the TF-440: bytes, two-wire addresses, register indices, segment and slot numbers. -/

namespace Sys2Proof

/-- A byte on a bus or in a buffer. -/
abbrev Byte := BitVec 8

/-- A 7-bit two-wire address (00_scope.md section 4.2); the direction bit is kept apart. -/
abbrev Addr := BitVec 7

/-- A quantity of 16 bits: a register index, a generation, a sequence number (00_scope.md section 4.2). -/
abbrev Word16 := BitVec 16

/-- A downstream segment, 0 to 3 (00_scope.md section 4.3). -/
abbrev Seg := Fin 4

/-- A route slot, 0 to 31 (R1). -/
abbrev Slot := Fin 32

/-- A window number, 0 to 63 (R1). -/
abbrev Win := Fin 64

/-- The direction bit of an address (00_scope.md section 4.2). -/
inductive Direction where
  | write
  | read
  deriving DecidableEq, Repr

end Sys2Proof
end

