-- ==== Sys2Proof/Config.lean ====
section
/-! DEFINITION. What the part fixes: its capacities, its limits, its reset values, and as data the nominal times, the
direct-current figures and the pins of 10_formats_pins_and_electrical_summary.md. The spec leaves no value open, so this
file holds no free value. -/

namespace Sys2Proof.Config

/-- Records in the pool (R78). -/
def poolSize : Nat := 48

/-- Lines of the shadow cache (R150). -/
def cacheLines : Nat := 128

/-- Entries the fault log holds (R166). -/
def logSize : Nat := 16

/-- Bytes of the command buffer (R183). -/
def commandBytes : Nat := 20

/-- Bytes of the response buffer (R191). -/
def responseBytes : Nat := 32

/-- Clock pulses after which a recovery procedure fails with SDA_LOW (R140). -/
def recoveryPulses : Nat := 9

/-- The highest value of the lost count (R173), of a context's Count (R48) and of Position (R103). -/
def countMax : Nat := 255

/-- Hold limit after power-on and RESET#, in ms (R198). -/
def resetHoldLimit : Nat := 30

/-- Idle limit after power-on and RESET#, in ms (R198). -/
def resetIdleLimit : Nat := 50

/-- Segment timeout after power-on and RESET#, in ms (R107). -/
def resetTimeout : Nat := 25

/-- The management address with both straps low (R181). -/
def managementBase : Addr := 0x70#7

/-- The filler byte (R33). -/
def filler : Byte := 0xFF#8

/-- Start-up interval after either reset, in µs (R182, R214). -/
def startupMicroseconds : Nat := 2000

/-- Shortest RESET# low time taken as a reset, in ns (R214). -/
def resetPulseNanoseconds : Nat := 1000

/-- Time VDD must have stayed above 2.7 V for the power-on reset to end, in µs (R214). -/
def powerOnMicroseconds : Nat := 1000

/-- Longest time from a change of the log or the alert enable to the change of ALERT#, in ns (R214). -/
def alertNanoseconds : Nat := 2000

/-- Pulses shorter than this are filtered, in ns (R214). -/
def filterNanoseconds : Nat := 50

/-- Unit of RetryGap, in µs (R90). -/
def retryGapUnitMicroseconds : Nat := 100

/-- Tolerance of every timer of the part, in per cent (00_scope.md section 4.1). -/
def timerTolerancePercent : Nat := 3

/-- The nominal times of a segment speed, in ns (R214). -/
structure BitTimes where
  period : Nat
  low : Nat
  high : Nat
  startHold : Nat
  restartSetup : Nat
  stopSetup : Nat
  busFree : Nat
  dataSetup : Nat
  dataHold : Nat
  deriving DecidableEq, Repr

/-- R214, column 100 kHz. -/
def times100kHz : BitTimes := ⟨10000, 5000, 5000, 5000, 5000, 5000, 5000, 500, 300⟩

/-- R214, column 400 kHz. -/
def times400kHz : BitTimes := ⟨2500, 1400, 1100, 1000, 1000, 1000, 1400, 200, 200⟩

/-- R214, column 1 MHz. -/
def times1MHz : BitTimes := ⟨1000, 550, 450, 450, 450, 450, 600, 80, 100⟩

/-- The limits the upstream port accepts and keeps, in ns (R214): SCLU high time, SCLU low time, latest change of SDAU. -/
structure UpstreamTimes where
  highMin : Nat
  lowMin : Nat
  sdaLatest : Nat
  deriving DecidableEq, Repr

/-- R214. -/
def upstreamTimes : UpstreamTimes := ⟨260, 500, 350⟩

/-- What a pin is to the part (R213). -/
inductive PinKind where
  | bus
  | openDrainOutput
  | inputPullUp
  | input
  | supply
  deriving DecidableEq, Repr

/-- The pins of R213, each with its kind. -/
def pins : List (String × PinKind) :=
  [("SCLU", .bus), ("SDAU", .bus), ("SCL0", .bus), ("SDA0", .bus), ("SCL1", .bus), ("SDA1", .bus), ("SCL2", .bus),
   ("SDA2", .bus), ("SCL3", .bus), ("SDA3", .bus), ("ALERT#", .openDrainOutput), ("RESET#", .inputPullUp),
   ("AS0", .input), ("AS1", .input), ("VDD", .supply), ("GND", .supply)]

/-- The direct-current figures of R213, in the units their names give. -/
structure DcFigures where
  supplyMinMillivolts : Nat
  supplyMaxMillivolts : Nat
  supplyCurrentMicroamperes : Nat
  pinToleratedMillivolts : Nat
  inputLowMaxPercentVdd : Nat
  inputHighMinPercentVdd : Nat
  hysteresisMinPercentVdd : Nat
  outputLowMaxMillivolts : Nat
  busSinkMicroamperes : Nat
  alertSinkMicroamperes : Nat
  leakageMaxNanoamperes : Nat
  busCapacitanceMaxPicofarads : Nat
  resetPullUpOhms : Nat
  brownOutMillivolts : Nat
  powerGoodMillivolts : Nat
  deriving DecidableEq, Repr

/-- R213 and R214. -/
def dcFigures : DcFigures := ⟨3000, 3600, 6000, 5500, 30, 70, 5, 400, 6000, 4000, 2000, 8, 50000, 2500, 2700⟩

end Sys2Proof.Config
end

