-- ==== Sys2Proof/Syntax.lean ====
section
/-! DEFINITION. The commands of the TF-440: one constructor of `Instr` per row of spec/opcode_table.json, and the operands
that the spec's text gives them. -/

namespace Sys2Proof

/-- The levels of a segment's two lines where a command samples them; `true` is high (R148). -/
structure LineLevels where
  scl : Bool
  sda : Bool
  deriving DecidableEq, Repr

/-- The levels of the lines of segments 0 to 3 where an executed command samples them (R148, R129). -/
structure SegSamples where
  seg0 : LineLevels
  seg1 : LineLevels
  seg2 : LineLevels
  seg3 : LineLevels
  deriving DecidableEq, Repr

/-- The route entry image of R208, byte for byte as ROUTE_STAGE carries it. -/
structure RouteImage where
  vaddr : Byte
  segment : Byte
  paddr : Byte
  indexWidth : Byte
  mode : Byte
  flags : Byte
  maxPost : Byte
  addrRetries : Byte
  retryGap : Byte
  defaultAccess : Byte
  winFirst : Byte
  winCount : Byte
  deriving DecidableEq, Repr

/-- The twenty management commands of R205 with their operand bytes; quantities of 16 bits are joined (R196). -/
inductive MgmtCommand where
  | status
  | setLimits (hold idle alert : Byte)
  | warmRestart
  | routeStage (slot : Byte) (image : RouteImage)
  | routeUnstage (slot : Byte)
  | routeQuery (slot copy : Byte)
  | windowStage (window : Byte) (low high : Word16) (access cacheable : Byte)
  | windowQuery (window copy : Byte)
  | commit (expected : Word16)
  | abandon
  | routeState (slot : Byte)
  | routeResume (slot : Byte)
  | segConfig (segment speed timeout : Byte)
  | segEnable (segment : Byte)
  | segDisable (segment force : Byte)
  | segRecover (segment : Byte)
  | cacheInvalidate (scope slot : Byte)
  | cacheProbe (segment paddr : Byte) (index : Word16)
  | logRead (position : Byte)
  | logRelease (seqNumber : Word16)
  deriving DecidableEq, Repr

/-- What a management write amounts to when its sub-transaction ends (R185, R188). -/
inductive FrameResult where
  /-- COLLECTING with a count of 0: no command. -/
  | empty
  /-- BAD_LENGTH, with the tag of the response. -/
  | badLength (tag : Byte)
  /-- BAD_COMMAND, with the tag of the response. -/
  | badCommand (tag : Byte)
  /-- A command that goes to its owning block. -/
  | command (tag : Byte) (c : MgmtCommand)
  deriving DecidableEq, Repr

/-- The commands of the block, in the order of spec/opcode_table.json. Constructors from `badCommand` on are the EXECUTION of
a management frame (R187): their operands are the frame's. -/
inductive Instr where
  | powerOnReset
  | resetAsserted
  | resetReleased (as1 as0 : Bool)
  | startupIntervalEnds
  | upstreamStart (lines : SegSamples)
  | addressDecode (addr : Addr) (dir : Direction)
  | indexByte (b : Byte)
  | postedDataByte (b : Byte)
  | passDataByte (b : Byte)
  | readByteAnswer (ack : Bool)
  | mgmtWriteByte (b : Byte)
  | upstreamStop (lines : SegSamples)
  | upstreamRepeatedStart (lines : SegSamples)
  | holdLimitExpires
  | idleLimitExpires
  | downstreamStart (g : Seg)
  | downstreamAddressAnswer (g : Seg) (ack : Bool)
  | downstreamIndexAnswer (g : Seg) (ack : Bool)
  | downstreamDataAnswer (g : Seg) (ack : Bool)
  | downstreamByteReceived (g : Seg) (b : Byte)
  | downstreamStopMade (g : Seg)
  | retryGapExpires (g : Seg)
  | segTimeout (g : Seg) (inNinthBit : Bool)
  | segConflict (g : Seg)
  | recoveryOpeningSample (g : Seg) (sda : Bool)
  | recoveryPulse (g : Seg) (sda : Bool)
  | recoveryStopCondition (g : Seg) (sda : Bool)
  | recoverySclLow (g : Seg)
  | badCommand (code tag : Byte)
  | badLength (frame : List Byte) (overrun : Bool)
  | status (tag : Byte)
  | setLimits (tag hold idle alert : Byte)
  | warmRestart (tag : Byte) (lines : SegSamples)
  | routeStage (tag slot : Byte) (image : RouteImage)
  | routeUnstage (tag slot : Byte)
  | routeQuery (tag slot copy : Byte)
  | windowStage (tag window : Byte) (low high : Word16) (access cacheable : Byte)
  | windowQuery (tag window copy : Byte)
  | commit (tag : Byte) (expected : Word16)
  | abandon (tag : Byte)
  | routeState (tag slot : Byte)
  | routeResume (tag slot : Byte)
  | segConfig (tag segment speed timeout : Byte)
  | segEnable (tag segment : Byte) (levels : LineLevels)
  | segDisable (tag segment force : Byte)
  | segRecover (tag segment : Byte)
  | cacheInvalidate (tag scope slot : Byte)
  | cacheProbe (tag segment paddr : Byte) (index : Word16)
  | logRead (tag position : Byte)
  | logRelease (tag : Byte) (seqNumber : Word16)
  deriving DecidableEq, Repr

end Sys2Proof
end

