-- ==== Sys2Proof/Decode.lean ====
section
/-! DEFINITION. Decoding. No row of spec/opcode_table.json gives bits, so no word spells a command; what the part decodes is
the byte frame of a management write (R185, R188, R205 to R209), and the encoder writes such frames. -/

namespace Sys2Proof

/-- The command a word spells by the table's bits: the table gives no row any bits. -/
def decodeTableWord (_nbits _w : Nat) : Option Instr := none

/-- The high byte of a 16-bit quantity (00_scope.md section 4.2). -/
def hiByte (w : Word16) : Byte := BitVec.ofNat 8 (w.toNat / 256)

/-- The low byte of a 16-bit quantity. -/
def loByte (w : Word16) : Byte := BitVec.ofNat 8 w.toNat

/-- Joins two bytes, high byte first (00_scope.md section 4.2, R28). -/
def joinBytes (hi lo : Byte) : Word16 := BitVec.ofNat 16 (hi.toNat * 256 + lo.toNat)

/-- The operand length of the command a code names; `none` where the code names no command (R205). -/
def operandLength (code : Byte) : Option Nat :=
  match code.toNat with
  | 0x01 => some 0
  | 0x02 => some 3
  | 0x03 => some 0
  | 0x10 => some 13
  | 0x11 => some 1
  | 0x12 => some 2
  | 0x13 => some 7
  | 0x14 => some 2
  | 0x15 => some 2
  | 0x16 => some 0
  | 0x17 => some 1
  | 0x18 => some 1
  | 0x20 => some 3
  | 0x21 => some 1
  | 0x22 => some 2
  | 0x23 => some 1
  | 0x30 => some 2
  | 0x31 => some 4
  | 0x40 => some 1
  | 0x41 => some 2
  | _ => none

/-- The command of a code and its operand bytes in frame order (R205, R208, R209). -/
def decodeCommand (code : Byte) (operands : List Byte) : Option MgmtCommand :=
  match code.toNat, operands with
  | 0x01, [] => some .status
  | 0x02, [hold, idle, alert] => some (.setLimits hold idle alert)
  | 0x03, [] => some .warmRestart
  | 0x10, [slot, va, sg, pa, iw, md, fl, mp, ar, rg, da, wf, wc] =>
    some (.routeStage slot ⟨va, sg, pa, iw, md, fl, mp, ar, rg, da, wf, wc⟩)
  | 0x11, [slot] => some (.routeUnstage slot)
  | 0x12, [slot, copy] => some (.routeQuery slot copy)
  | 0x13, [w, lh, ll, hh, hl, access, cacheable] =>
    some (.windowStage w (joinBytes lh ll) (joinBytes hh hl) access cacheable)
  | 0x14, [w, copy] => some (.windowQuery w copy)
  | 0x15, [gh, gl] => some (.commit (joinBytes gh gl))
  | 0x16, [] => some .abandon
  | 0x17, [slot] => some (.routeState slot)
  | 0x18, [slot] => some (.routeResume slot)
  | 0x20, [g, speed, timeout] => some (.segConfig g speed timeout)
  | 0x21, [g] => some (.segEnable g)
  | 0x22, [g, force] => some (.segDisable g force)
  | 0x23, [g] => some (.segRecover g)
  | 0x30, [scope, slot] => some (.cacheInvalidate scope slot)
  | 0x31, [g, pa, ih, il] => some (.cacheProbe g pa (joinBytes ih il))
  | 0x40, [k] => some (.logRead k)
  | 0x41, [sh, sl] => some (.logRelease (joinBytes sh sl))
  | _, _ => none

/-- What a management write amounts to at its end: the frame checks of R185 and R188 in their order. -/
def decodeFrame (frame : List Byte) (overrun : Bool) : FrameResult :=
  if overrun then .badLength (frame[1]?.getD 0#8)
  else
    match frame with
    | [] => .empty
    | [_] => .badLength 0#8
    | code :: tag :: operands =>
      match operandLength code with
      | none => .badCommand tag
      | some _ =>
        match decodeCommand code operands with
        | none => .badLength tag
        | some c => .command tag c

/-- The code of a command (R205). -/
def commandCode : MgmtCommand → Byte
  | .status => 0x01#8
  | .setLimits .. => 0x02#8
  | .warmRestart => 0x03#8
  | .routeStage .. => 0x10#8
  | .routeUnstage .. => 0x11#8
  | .routeQuery .. => 0x12#8
  | .windowStage .. => 0x13#8
  | .windowQuery .. => 0x14#8
  | .commit .. => 0x15#8
  | .abandon => 0x16#8
  | .routeState .. => 0x17#8
  | .routeResume .. => 0x18#8
  | .segConfig .. => 0x20#8
  | .segEnable .. => 0x21#8
  | .segDisable .. => 0x22#8
  | .segRecover .. => 0x23#8
  | .cacheInvalidate .. => 0x30#8
  | .cacheProbe .. => 0x31#8
  | .logRead .. => 0x40#8
  | .logRelease .. => 0x41#8

/-- The operand bytes of a command in frame order (R205, R208, R209). -/
def commandOperands : MgmtCommand → List Byte
  | .status => []
  | .setLimits hold idle alert => [hold, idle, alert]
  | .warmRestart => []
  | .routeStage slot i =>
    [slot, i.vaddr, i.segment, i.paddr, i.indexWidth, i.mode, i.flags, i.maxPost, i.addrRetries, i.retryGap,
     i.defaultAccess, i.winFirst, i.winCount]
  | .routeUnstage slot => [slot]
  | .routeQuery slot copy => [slot, copy]
  | .windowStage w low high access cacheable =>
    [w, hiByte low, loByte low, hiByte high, loByte high, access, cacheable]
  | .windowQuery w copy => [w, copy]
  | .commit expected => [hiByte expected, loByte expected]
  | .abandon => []
  | .routeState slot => [slot]
  | .routeResume slot => [slot]
  | .segConfig g speed timeout => [g, speed, timeout]
  | .segEnable g => [g]
  | .segDisable g force => [g, force]
  | .segRecover g => [g]
  | .cacheInvalidate scope slot => [scope, slot]
  | .cacheProbe g pa index => [g, pa, hiByte index, loByte index]
  | .logRead k => [k]
  | .logRelease q => [hiByte q, loByte q]

/-- The frame of a command: code, tag, operands (R183, R205). -/
def encodeFrame (tag : Byte) (c : MgmtCommand) : List Byte := commandCode c :: tag :: commandOperands c

end Sys2Proof
end

