-- ==== Sys2Proof/Machine/State.lean ====
section
/-! DEFINITION. The state of the TF-440 as plain data, its reset value, and the reasons a step can stop. -/

namespace Sys2Proof.Machine

/-- A fault: none. No rule of the spec stops the part, and every failure is an effect on its state (log entry 4). -/
inductive Fault where
  deriving DecidableEq, Repr

/-- A refusal. Raised by the dispatch alone, for a command that has no meaning yet; safe. -/
inductive Refusal where
  /-- The command of this mnemonic has no meaning yet; safe: the machine stops. -/
  | notModelled (mnemonic : String)
  deriving DecidableEq, Repr

/-! ### Route and window tables (chapter 1) -/

/-- Bytes of register index in each write of a route; `raw` is 0 (R4). -/
inductive IndexWidth where
  | raw
  | one
  | two
  deriving DecidableEq, Repr

/-- Access of a window or a route's DefaultAccess (section 1.2, R31). -/
inductive Access where
  | none
  | ro
  | wo
  | rw
  deriving DecidableEq, Repr

/-- How writes through a route are handled (R5). -/
inductive Mode where
  | pass
  | posted
  deriving DecidableEq, Repr

/-- A route entry (section 1.2). -/
structure RouteEntry where
  valid : Bool
  vaddr : Addr
  segment : Seg
  paddr : Addr
  width : IndexWidth
  autoInc : Bool
  mode : Mode
  maxPost : Nat
  addrRetries : Nat
  retryGap : Nat
  defaultAccess : Access
  winFirst : Nat
  winCount : Nat
  logDenials : Bool
  deriving DecidableEq, Repr

/-- The cleared content of a route slot (R2). -/
def RouteEntry.cleared : RouteEntry :=
  { valid := false, vaddr := 0x08#7, segment := 0, paddr := 0x08#7, width := .raw, autoInc := false, mode := .pass,
    maxPost := 1, addrRetries := 0, retryGap := 1, defaultAccess := .none, winFirst := 0, winCount := 0, logDenials := false }

/-- A window entry (section 1.3). -/
structure WindowEntry where
  low : Word16
  high : Word16
  access : Access
  cacheable : Bool
  deriving DecidableEq, Repr

/-- The content of a window entry at reset (R2). -/
def WindowEntry.cleared : WindowEntry := { low := 0#16, high := 0#16, access := .none, cacheable := false }

/-- One copy of the two tables (R1). -/
structure Tables where
  routes : Vector RouteEntry 32
  windows : Vector WindowEntry 64
  deriving DecidableEq, Repr

/-- Both tables as reset leaves them (R2). -/
def Tables.cleared : Tables :=
  { routes := Vector.replicate 32 RouteEntry.cleared, windows := Vector.replicate 64 WindowEntry.cleared }

/-- The runtime of a slot (section 1.4). A pointer of `none` is UNKNOWN. -/
structure Runtime where
  faulted : Bool
  pointer : Option Word16
  pending : Nat
  incarnation : Byte
  deriving DecidableEq, Repr

/-- The runtime at reset (R12). -/
def Runtime.reset : Runtime := { faulted := false, pointer := none, pending := 0, incarnation := 0#8 }

/-! ### Upstream port (chapter 3) -/

/-- The port states of R45. -/
inductive PortState where
  | upIdle
  | upAddress
  | upIgnore
  | upMgmtWrite
  | upMgmtRead
  | upIndex
  | upWrite
  | upRead
  deriving DecidableEq, Repr

/-- Where the next read byte comes from (R48). -/
inductive Source where
  | cache
  | target
  | filler
  deriving DecidableEq, Repr

/-- The hold points of R55. -/
inductive HoldPoint where
  | readAddress
  | passByte
  | postByte
  | readByte
  deriving DecidableEq, Repr

/-- The hold reasons of R55. -/
inductive HoldReason where
  | engine
  | order
  | record
  | target
  deriving DecidableEq, Repr

/-- A hold in progress: its point and the hold limit in force when it began (R57). The reason is computed (R56). -/
structure Hold where
  point : HoldPoint
  limit : Nat
  deriving DecidableEq, Repr

/-- The kinds of pass-through request (R109). -/
inductive RequestKind where
  | write
  | indexedRead
  | rawRead
  deriving DecidableEq, Repr

/-- A pass-through request (R109). `firstByte` is read of a WRITE alone. -/
structure Request where
  kind : RequestKind
  slot : Slot
  incarnation : Byte
  segment : Seg
  paddr : Addr
  width : IndexWidth
  autoInc : Bool
  index : Option Word16
  firstByte : Byte
  deriving DecidableEq, Repr

/-- The context's Request field (R48). A taken request is held by its engine. -/
inductive RequestState where
  | absent
  | waiting (r : Request)
  | taken
  deriving DecidableEq, Repr

/-- The pass-through context (R48). Its Record is the queue's `openRecord`. -/
structure Context where
  slot : Slot
  incarnation : Byte
  route : RouteEntry
  direction : Direction
  indexTaken : Nat
  indexHigh : Byte
  index : Option Word16
  follow : Bool
  source : Source
  refusing : Bool
  denialLogged : Bool
  request : RequestState
  hold : Option Hold
  count : Nat
  deriving DecidableEq, Repr

/-- What the port has put on SDAU in the last ninth bit it answered; `released` where it has answered none (R47). -/
inductive UpAnswer where
  | released
  | ack
  | nack
  deriving DecidableEq, Repr

/-! ### Posted-write queue (chapter 4) -/

/-- The in-use states of a record (R80). -/
inductive RecordState where
  | opened
  | queued
  | inFlight
  | retryWait
  deriving DecidableEq, Repr

/-- A record in use (R79). Its Length is the length of `data`. -/
structure Record where
  slot : Slot
  incarnation : Byte
  segment : Seg
  paddr : Addr
  width : IndexWidth
  autoInc : Bool
  addrRetries : Nat
  retryGap : Nat
  index : Option Word16
  data : List Byte
  state : RecordState
  attempts : Nat
  deriving DecidableEq, Repr

/-! ### Segment engines (chapters 5 and 6) -/

/-- Segment speed (R107). -/
inductive Speed where
  | khz100
  | khz400
  | mhz1
  deriving DecidableEq, Repr

/-- The nominal bit times of a speed (R214). -/
def Speed.times : Speed → Config.BitTimes
  | .khz100 => Config.times100kHz
  | .khz400 => Config.times400kHz
  | .mhz1 => Config.times1MHz

/-- The phases of a transaction (R105). -/
inductive Phase where
  | addressing
  | indexing
  | writing
  | writeWait
  | restarting
  | reading
  | ackHold
  | stopping
  deriving DecidableEq, Repr

/-- The Work of a BUSY engine (R103). RECORD is the head record of the segment's list. -/
inductive Work where
  | record
  | request (r : Request)
  | detached (r : Request)
  deriving DecidableEq, Repr

/-- What the engine is putting on its segment (R104, R106). -/
inductive SegOut where
  /-- Both lines released, or SCL held low by the phase. -/
  | released
  /-- An address, index or data byte. -/
  | byte (b : Byte)
  /-- The ninth bit of a byte read, `ack` or not, clocked in the phase named. -/
  | ninthBit (ack : Bool) (during : Phase)
  /-- The stop condition. -/
  | stop
  deriving DecidableEq, Repr

/-- The items an engine holds in BUSY (R103), with the byte it writes, the refusal it owes a report of and the mark of a
write byte whose outcome it has not reported yet (R115, R123). -/
structure Transaction where
  phase : Phase
  work : Work
  position : Nat
  readIndex : Word16
  writeIndex : Word16
  data : Byte
  refused : Bool
  unanswered : Bool
  entryOwed : Bool
  out : SegOut
  deriving DecidableEq, Repr

/-- Where a recovery procedure stands (R140, R141). -/
inductive RecoveryStep where
  /-- Both lines released, SCL observed, SDA not sampled yet. -/
  | opening
  /-- A clock pulse is being given. -/
  | pulse
  /-- The stop condition is being made. -/
  | stop
  deriving DecidableEq, Repr

/-- A recovery procedure (R139). `byCommand` is the started-by mark SEG_RECOVER. -/
structure Procedure where
  step : RecoveryStep
  pulses : Nat
  byCommand : Bool
  deriving DecidableEq, Repr

/-- The engine states of R102 with what each holds. -/
inductive EngineMode where
  | disabled
  | idle
  | busy (t : Transaction)
  | recovery (p : Procedure)
  | stuck
  deriving DecidableEq, Repr

/-- A segment engine (R102, R107). -/
structure Engine where
  mode : EngineMode
  speed : Speed
  timeout : Nat
  deriving DecidableEq, Repr

/-- An engine at the end of a reset (R102, R107). -/
def Engine.reset : Engine := { mode := .disabled, speed := .khz100, timeout := Config.resetTimeout }

/-! ### Shadow cache (chapter 7) -/

/-- The key of a line (R150). -/
structure Key where
  segment : Seg
  paddr : Addr
  index : Word16
  deriving DecidableEq, Repr

/-- A valid line (R150). -/
structure Line where
  key : Key
  value : Byte
  deriving DecidableEq, Repr

/-! ### Fault log (chapter 8) -/

/-- The nine kinds of section 8.2. -/
inductive Kind where
  | postAddrNack
  | postDataNack
  | segTimeout
  | segConflict
  | segStuck
  | recordsDiscarded
  | upHoldExpired
  | upAbandoned
  | accessDenied
  deriving DecidableEq, Repr

/-- The Index field of an entry: absent, one byte or two (R167). -/
inductive LogIndex where
  | absent
  | one (i : Byte)
  | two (i : Word16)
  deriving DecidableEq, Repr

/-- A fault-log entry (R167). Incarnation is present exactly where Slot is. -/
structure Entry where
  seqNumber : Word16
  kind : Kind
  segment : Option Seg
  slot : Option (Slot × Byte)
  paddr : Option Addr
  index : LogIndex
  detailA : Byte
  detailB : Byte
  pass : Bool
  record : Bool
  superseded : Bool
  deriving DecidableEq, Repr

/-! ### Management unit (chapter 9) -/

/-- The frame states of R183. -/
inductive FrameState where
  | noFrame
  | collecting
  | overrun
  deriving DecidableEq, Repr

/-- The completion codes of R195. -/
inductive Code where
  | none
  | ok
  | pending
  | failed
  | badCommand
  | badLength
  | badSlot
  | badValue
  | busy
  | stale
  | invalid
  | badSeq
  deriving DecidableEq, Repr

/-- The note of the execution that wrote the response buffer (R191): none, a SEG_RECOVER that started a procedure on the
segment named, or any other (log entry 13). -/
inductive Execution where
  | none
  | recovering (g : Seg)
  | other
  deriving DecidableEq, Repr

/-- The response buffer (R191). The payload length of byte 2 is the length of `payload`. -/
structure Response where
  code : Code
  tag : Byte
  payload : List Byte
  noted : Execution
  deriving DecidableEq, Repr

/-- The response buffer at reset (R191). -/
def Response.reset : Response := { code := .none, tag := 0#8, payload := [], noted := .none }

/-- Where the part stands in its reset (R182, R203). -/
inductive Power where
  /-- Power-on reset or RESET# is in progress. -/
  | inReset
  /-- The start-up interval runs. -/
  | startup
  | running
  deriving DecidableEq, Repr

/-- The whole state of the part, and the queue of waiting commands. INVENTORY.md gives each field's rule. -/
structure State where
  power : Power
  mga : Addr
  active : Tables
  staged : Tables
  generation : Word16
  dirty : Bool
  runtime : Vector Runtime 32
  port : PortState
  context : Option Context
  answer : UpAnswer
  sending : Option Byte
  readPos : Nat
  lists : Vector (List Record) 4
  openRecord : Option Record
  recordRequest : Option Byte
  engines : Vector Engine 4
  cache : List Line
  commitMarks : Vector Bool 4
  log : List Entry
  nextSeq : Word16
  lost : Nat
  frame : FrameState
  buffer : List Byte
  response : Response
  holdLimit : Nat
  idleLimit : Nat
  alertEnable : Bool
  pending : List Instr
  deriving DecidableEq, Repr

/-- The part while a power-on reset is in progress: every field at the value the spec gives for reset, and the queue empty.
The MGA is not sampled yet (DESIGN CHOICE, log entry 1, unsafe); `readPos` is read in UP_MGMT_READ alone (log entry 18). -/
def State.reset : State :=
  { power := .inReset, mga := Config.managementBase, active := Tables.cleared, staged := Tables.cleared, generation := 0#16,
    dirty := false, runtime := Vector.replicate 32 Runtime.reset, port := .upIdle, context := none, answer := .released,
    sending := none, readPos := 0, lists := Vector.replicate 4 [], openRecord := none, recordRequest := none,
    engines := Vector.replicate 4 Engine.reset, cache := [], commitMarks := Vector.replicate 4 false, log := [],
    nextSeq := 0#16, lost := 0, frame := .noFrame, buffer := [], response := Response.reset,
    holdLimit := Config.resetHoldLimit, idleLimit := Config.resetIdleLimit, alertEnable := true, pending := [] }

end Sys2Proof.Machine
end

