-- ==== Sys2Proof/Machine/Operands.lean ====
section
/-! DEFINITION. Index arithmetic, the window search, access and cacheability decisions (chapter 2), and the reading of operand
bytes into ranged values (R207). -/

namespace Sys2Proof.Machine

/-- Bytes of index of a width (R4). -/
def IndexWidth.bytes : IndexWidth → Nat
  | .raw => 0
  | .one => 1
  | .two => 2

/-- Whether a width makes a route indexed (R4). -/
def IndexWidth.indexed (w : IndexWidth) : Bool := w != .raw

/-- One more than every index a width carries: 2^(8 × IndexWidth) (R24). -/
def IndexWidth.span (w : IndexWidth) : Nat := 256 ^ w.bytes

/-- Wraps an index to its width (R29). -/
def IndexWidth.wrap (w : IndexWidth) (i : Word16) : Word16 :=
  match w with
  | .one => BitVec.ofNat 16 (i.toNat % 256)
  | _ => i

/-- The index after one data byte: plus 1 if AutoInc is yes, wrapping, and the same if it is no (R29, R79, R117, R120). -/
def advance (w : IndexWidth) (autoInc : Bool) (i : Word16) : Word16 := if autoInc then w.wrap (i + 1#16) else i

/-- The index before one data byte: the inverse of `advance` on indices of the width. -/
def retreat (w : IndexWidth) (autoInc : Bool) (i : Word16) : Word16 := if autoInc then w.wrap (i - 1#16) else i

/-- The index of data byte `n + 1` of a write whose first byte lies at `i` (R79). -/
def advanceBy (w : IndexWidth) (autoInc : Bool) (n : Nat) (i : Word16) : Word16 :=
  match n with
  | 0 => i
  | k + 1 => advance w autoInc (advanceBy w autoInc k i)

/-- The index bytes of a width, high byte first (R88, R116). -/
def indexBytes (w : IndexWidth) (i : Word16) : List Byte :=
  match w with
  | .raw => []
  | .one => [loByte i]
  | .two => [hiByte i, loByte i]

/-- The Index field of an entry: as many bytes as the width, absent where there is no index (R168). -/
def logIndex (w : IndexWidth) (i : Option Word16) : LogIndex :=
  match w, i with
  | .one, some k => .one (loByte k)
  | .two, some k => .two k
  | _, _ => .absent

/-- The address byte PA+W or PA+R (00_scope.md section 4.2, R114). -/
def addressByte (pa : Addr) (dir : Direction) : Byte :=
  BitVec.ofNat 8 (pa.toNat * 2 + (if dir = .read then 1 else 0))

/-- A reserved address (R49, 00_scope.md section 4.2). -/
def reservedAddr (a : Addr) : Bool := a.toNat < 0x08 || 0x78 ≤ a.toNat

/-! ### Access decisions (R31 to R35) -/

/-- Whether an access allows reads (R31). -/
def Access.reads : Access → Bool
  | .ro | .rw => true
  | .none | .wo => false

/-- Whether an access allows writes (R31). -/
def Access.writes : Access → Bool
  | .wo | .rw => true
  | .none | .ro => false

/-- Whether an access allows a direction (R34). -/
def Access.allows (a : Access) (dir : Direction) : Bool :=
  match dir with
  | .read => a.reads
  | .write => a.writes

/-- The run of a route in a copy of the tables (R6). -/
def run (t : Tables) (r : RouteEntry) : List WindowEntry := (t.windows.toList.drop r.winFirst).take r.winCount

/-- Whether a window covers an index (R7). -/
def WindowEntry.covers (w : WindowEntry) (i : Word16) : Bool := w.low.toNat ≤ i.toNat && i.toNat ≤ w.high.toNat

/-- The deciding window of an index: the first of the run that covers it (R31). -/
def decidingWindow (t : Tables) (r : RouteEntry) (i : Word16) : Option WindowEntry := (run t r).find? (·.covers i)

/-- The access of an index on an indexed route (R31). -/
def accessAt (t : Tables) (r : RouteEntry) (i : Word16) : Access :=
  match decidingWindow t r i with
  | some w => w.access
  | none => r.defaultAccess

/-- Whether an index is cacheable on a route (R35). -/
def cacheableAt (t : Tables) (r : RouteEntry) (i : Word16) : Bool :=
  r.width.indexed &&
    (match decidingWindow t r i with
     | some w => w.cacheable
     | none => false)

/-- Whether the byte of a sub-transaction at `i` is allowed: by its own index on an indexed route (R32, R33), always on a raw
one, whose direction was decided at the address (R34). -/
def byteAllowed (t : Tables) (r : RouteEntry) (dir : Direction) (i : Option Word16) : Bool :=
  match r.width with
  | .raw => true
  | _ => (accessAt t r (i.getD 0#16)).allows dir

/-- The slot of the valid active entry that claims an address (R3). -/
def findRoute (t : Tables) (a : Addr) : Option Slot :=
  (List.finRange 32).find? fun i => t.routes[i].valid && t.routes[i].vaddr == a

/-! ### Operand bytes (R207) -/

/-- A segment byte; `none` is BAD_SLOT. -/
def segOf (b : Byte) : Option Seg := if h : b.toNat < 4 then some ⟨b.toNat, h⟩ else none

/-- A slot byte; `none` is BAD_SLOT. -/
def slotOf (b : Byte) : Option Slot := if h : b.toNat < 32 then some ⟨b.toNat, h⟩ else none

/-- A window byte; `none` is BAD_SLOT. -/
def winOf (b : Byte) : Option Win := if h : b.toNat < 64 then some ⟨b.toNat, h⟩ else none

/-- A yes or no byte (R206). -/
def boolOf (b : Byte) : Option Bool :=
  match b.toNat with
  | 0 => some false
  | 1 => some true
  | _ => none

/-- An access byte (R206). -/
def accessOf (b : Byte) : Option Access :=
  match b.toNat with
  | 0 => some .none
  | 1 => some .ro
  | 2 => some .wo
  | 3 => some .rw
  | _ => none

/-- A mode byte (R206). -/
def modeOf (b : Byte) : Option Mode :=
  match b.toNat with
  | 0 => some .pass
  | 1 => some .posted
  | _ => none

/-- An index width byte (R208). -/
def widthOf (b : Byte) : Option IndexWidth :=
  match b.toNat with
  | 0 => some .raw
  | 1 => some .one
  | 2 => some .two
  | _ => none

/-- A speed byte (R206). -/
def speedOf (b : Byte) : Option Speed :=
  match b.toNat with
  | 0 => some .khz100
  | 1 => some .khz400
  | 2 => some .mhz1
  | _ => none

/-- A routed or target address byte, 08h to 77h (R16, R164). -/
def addrOf (b : Byte) : Option Addr :=
  if 0x08 ≤ b.toNat ∧ b.toNat ≤ 0x77 then some (BitVec.ofNat 7 b.toNat) else none

/-- A byte that carries a number of the range `lo` to `hi`. -/
def numberOf (lo hi : Nat) (b : Byte) : Option Nat := if lo ≤ b.toNat ∧ b.toNat ≤ hi then some b.toNat else none

/-- The valid route entry that ROUTE_STAGE carries; `none` is BAD_VALUE (R16, R207, R208). -/
def routeEntryOf (i : RouteImage) : Option RouteEntry := do
  let va ← addrOf i.vaddr
  let g ← segOf i.segment
  let pa ← addrOf i.paddr
  let iw ← widthOf i.indexWidth
  let md ← modeOf i.mode
  let fl ← numberOf 0 3 i.flags
  let mp ← numberOf 1 16 i.maxPost
  let ar ← numberOf 0 15 i.addrRetries
  let rg ← numberOf 1 255 i.retryGap
  let da ← accessOf i.defaultAccess
  let wf ← numberOf 0 63 i.winFirst
  let wc ← numberOf 0 16 i.winCount
  if wf + wc ≤ 64 then
    some { valid := true, vaddr := va, segment := g, paddr := pa, width := iw, autoInc := fl.testBit 0, mode := md,
           maxPost := mp, addrRetries := ar, retryGap := rg, defaultAccess := da, winFirst := wf, winCount := wc,
           logDenials := fl.testBit 1 }
  else none

end Sys2Proof.Machine
end

