-- ==== Sys2Proof/Machine/Codes.lean ====
section
/-! DEFINITION. The numeric values of codes (R206) and the byte images of responses (R208 to R212). -/

namespace Sys2Proof.Machine

/-- A number that travels in one byte (R206). -/
def byteOf (n : Nat) : Byte := BitVec.ofNat 8 n

/-- Yes and no, set and clear, enabled and disabled (R206). -/
def boolCode (b : Bool) : Byte := if b then 0x01#8 else 0x00#8

/-- Completion codes (R206). -/
def Code.value : Code → Byte
  | .none => 0x00#8
  | .ok => 0x01#8
  | .pending => 0x02#8
  | .failed => 0x03#8
  | .badCommand => 0x10#8
  | .badLength => 0x11#8
  | .badSlot => 0x12#8
  | .badValue => 0x13#8
  | .busy => 0x14#8
  | .stale => 0x15#8
  | .invalid => 0x16#8
  | .badSeq => 0x17#8

/-- Access (R206). -/
def Access.value : Access → Byte
  | .none => 0x00#8
  | .ro => 0x01#8
  | .wo => 0x02#8
  | .rw => 0x03#8

/-- Mode (R206). -/
def Mode.value : Mode → Byte
  | .pass => 0x00#8
  | .posted => 0x01#8

/-- Engine state (R206). -/
def EngineMode.value : EngineMode → Byte
  | .disabled => 0x00#8
  | .idle => 0x01#8
  | .busy _ => 0x02#8
  | .recovery _ => 0x03#8
  | .stuck => 0x04#8

/-- Reasons of INVALID (R24, R206). -/
inductive InvalidReason where
  | dupVaddr
  | mgmtVaddr
  | windowWidth
  deriving DecidableEq, Repr

/-- Reasons of INVALID (R206). -/
def InvalidReason.value : InvalidReason → Byte
  | .dupVaddr => 0x01#8
  | .mgmtVaddr => 0x02#8
  | .windowWidth => 0x03#8

/-- Entry kinds (R206). -/
def Kind.value : Kind → Byte
  | .postAddrNack => 0x01#8
  | .postDataNack => 0x02#8
  | .segTimeout => 0x03#8
  | .segConflict => 0x04#8
  | .segStuck => 0x05#8
  | .recordsDiscarded => 0x06#8
  | .upHoldExpired => 0x07#8
  | .upAbandoned => 0x08#8
  | .accessDenied => 0x09#8

/-- Denial reasons (R43). -/
inductive DenialReason where
  | segmentUnavailable
  | routeFaulted
  | pointerUnknown
  | window
  deriving DecidableEq, Repr

/-- Denial reasons (R206). -/
def DenialReason.value : DenialReason → Byte
  | .segmentUnavailable => 0x01#8
  | .routeFaulted => 0x02#8
  | .pointerUnknown => 0x03#8
  | .window => 0x04#8

/-- Direction (R206). -/
def directionCode : Direction → Byte
  | .write => 0x00#8
  | .read => 0x01#8

/-- Hold reasons (R206). -/
def HoldReason.value : HoldReason → Byte
  | .engine => 0x01#8
  | .order => 0x02#8
  | .record => 0x03#8
  | .target => 0x04#8

/-- Hold points (R206). -/
def HoldPoint.value : HoldPoint → Byte
  | .readAddress => 0x00#8
  | .passByte => 0x01#8
  | .postByte => 0x02#8
  | .readByte => 0x03#8

/-- DetailB of an UP_HOLD_EXPIRED entry: the hold point, plus 80h when the delivered flag is set (R206). -/
def holdDetail (p : HoldPoint) (delivered : Bool) : Byte := if delivered then p.value ||| 0x80#8 else p.value

/-- Causes of a bulk discard (R97). -/
inductive DiscardCause where
  | force
  | stuck
  | warmRestart
  deriving DecidableEq, Repr

/-- Discard causes (R206). -/
def DiscardCause.value : DiscardCause → Byte
  | .force => 0x01#8
  | .stuck => 0x02#8
  | .warmRestart => 0x03#8

/-- Causes of a failed recovery (R140). -/
inductive StuckCause where
  | sclLow
  | sdaLow
  deriving DecidableEq, Repr

/-- Stuck causes (R206). -/
def StuckCause.value : StuckCause → Byte
  | .sclLow => 0x01#8
  | .sdaLow => 0x02#8

/-- Engine phases (R206). -/
def Phase.value : Phase → Byte
  | .addressing => 0x01#8
  | .indexing => 0x02#8
  | .writing => 0x03#8
  | .writeWait => 0x04#8
  | .restarting => 0x05#8
  | .reading => 0x06#8
  | .ackHold => 0x07#8
  | .stopping => 0x08#8

/-- Port states at an abandon (R206); UP_IDLE and UP_IGNORE make no entry and have no code. -/
def PortState.value : PortState → Byte
  | .upAddress => 0x01#8
  | .upMgmtWrite => 0x02#8
  | .upMgmtRead => 0x03#8
  | .upIndex => 0x04#8
  | .upWrite => 0x05#8
  | .upRead => 0x06#8
  | .upIdle => 0x00#8
  | .upIgnore => 0x00#8

/-- The Flags byte of the route entry image (R207). -/
def routeFlags (r : RouteEntry) : Byte := byteOf ((if r.autoInc then 1 else 0) + (if r.logDenials then 2 else 0))

/-- The 13-byte payload of ROUTE_QUERY: Valid and the route entry image (R208). -/
def routePayload (r : RouteEntry) : List Byte :=
  [boolCode r.valid, byteOf r.vaddr.toNat, byteOf r.segment.val, byteOf r.paddr.toNat, byteOf r.width.bytes, r.mode.value,
   routeFlags r, byteOf r.maxPost, byteOf r.addrRetries, byteOf r.retryGap, r.defaultAccess.value, byteOf r.winFirst,
   byteOf r.winCount]

/-- A 16-bit item of a payload, high byte first (R196). -/
def wordBytes (w : Word16) : List Byte := [hiByte w, loByte w]

/-- The 6-byte payload of WINDOW_QUERY (R209). -/
def windowPayload (w : WindowEntry) : List Byte :=
  wordBytes w.low ++ wordBytes w.high ++ [w.access.value, boolCode w.cacheable]

/-- The 5-byte payload of ROUTE_STATE (R210, R21). -/
def routeStatePayload (valid : Bool) (r : Runtime) : List Byte :=
  byteOf ((if valid then 1 else 0) + (if r.faulted then 2 else 0) + (if r.pointer.isSome then 4 else 0)) ::
    (wordBytes (r.pointer.getD 0#16) ++ [byteOf r.pending, r.incarnation])

/-- Bytes of an entry's index (R212). -/
def LogIndex.bytes : LogIndex → Nat
  | .absent => 0
  | .one _ => 1
  | .two _ => 2

/-- The two index bytes of an entry image (R212). -/
def LogIndex.image : LogIndex → List Byte
  | .absent => [0x00#8, 0x00#8]
  | .one i => [0x00#8, i]
  | .two i => wordBytes i

/-- The presence byte of an entry image (R212). -/
def Entry.presence (e : Entry) : Byte :=
  byteOf ((if e.segment.isSome then 1 else 0) + (if e.slot.isSome then 2 else 0) + (if e.paddr.isSome then 4 else 0) +
    8 * e.index.bytes)

/-- The Flags byte of an entry image (R212). -/
def Entry.flags (e : Entry) : Byte :=
  byteOf ((if e.pass then 1 else 0) + (if e.record then 2 else 0) + (if e.superseded then 4 else 0))

/-- The 13-byte entry image; an absent field reads 00h (R212, R207). -/
def Entry.image (e : Entry) : List Byte :=
  wordBytes e.seqNumber ++
    [e.kind.value, e.presence, byteOf ((e.segment.map (·.val)).getD 0), byteOf ((e.slot.map (·.1.val)).getD 0),
     (e.slot.map (·.2)).getD 0x00#8, byteOf ((e.paddr.map (·.toNat)).getD 0)] ++
    e.index.image ++ [e.detailA, e.detailB, e.flags]

/-- Byte `k` of a management read: the response, then FFh (R191, R192). -/
def Response.byte (r : Response) (k : Nat) : Byte :=
  ([r.code.value, r.tag, byteOf r.payload.length] ++ r.payload)[k]?.getD Config.filler

end Sys2Proof.Machine
end

