-- ==== Sys2Proof/Machine/Flags.lean ====
section
/-! DEFINITION. What the state shows without an event: the records present, the lines of the part (R213), and the hold reason
in force (R56). -/

namespace Sys2Proof.Machine

/-! ### Records present in the queue -/

/-- Every record present in the PWQ: the lists and the OPEN record (R78, R80). -/
def State.records (s : State) : List Record := s.lists.toList.flatten ++ s.openRecord.toList

/-- The number of records in use, OPEN included (R78). -/
def State.inUse (s : State) : Nat := s.records.length

/-- Whether a record names a segment and a target (R112). -/
def Record.names (r : Record) (g : Seg) (pa : Addr) : Bool := r.segment == g && r.paddr == pa

/-- Whether a record belongs to a slot and an incarnation (R10, R11). -/
def Record.belongs (r : Record) (i : Slot) (inc : Byte) : Bool := r.slot == i && r.incarnation == inc

/-- Whether some record present names a segment and a target, in any state (R112, R157). -/
def State.anyNames (s : State) (g : Seg) (pa : Addr) : Bool := s.records.any (·.names g pa)

/-! ### Lines -/

/-- ALERT# is driven low: the log is non-empty and alerting is enabled (R179). -/
def State.alertLow (s : State) : Bool := !s.log.isEmpty && s.alertEnable

/-- The hold in progress, if any (R48). -/
def State.hold (s : State) : Option Hold := s.context.bind (·.hold)

/-- SCLU is held low: a hold is in progress (R55). -/
def State.scluHeld (s : State) : Bool := s.hold.isSome

/-- The engine keeps its segment's SCL low between bits: WRITE_WAIT and ACK_HOLD (R104). -/
def EngineMode.sclHeld : EngineMode → Bool
  | .busy t => t.phase == .writeWait || t.phase == .ackHold
  | _ => false

/-- Whether an engine is BUSY (R102). -/
def EngineMode.isBusy : EngineMode → Bool
  | .busy _ => true
  | _ => false

/-- Whether routes through a segment in this state are refused: DISABLED or STUCK (R51, R63). -/
def EngineMode.outOfService : EngineMode → Bool
  | .disabled | .stuck => true
  | _ => false

/-! ### Hold reason -/

/-- The hold reason in force for a context at a hold point (R56). -/
def State.holdReason (s : State) (c : Context) (p : HoldPoint) : HoldReason :=
  match p with
  | .postByte => .record
  | _ =>
    match c.request with
    | .taken => .target
    | _ => if s.anyNames c.route.segment c.route.paddr then .order else .engine

end Sys2Proof.Machine
end

