-- ==== Sys2Proof/Machine/Ops.lean ====
section
/-! DEFINITION. The shared operations: reads and writes of the state's tables, the fault log, the shadow cache, the
posted-write queue, the arbiter, and the end of a hold. -/

namespace Sys2Proof.Machine

/-! ### Reads and writes of one element -/

/-- The engine of a segment. -/
def State.engine (s : State) (g : Seg) : Engine := s.engines[g]

/-- The list of a segment (R87). -/
def State.list (s : State) (g : Seg) : List Record := s.lists[g]

/-- The runtime of a slot (R21). -/
def State.slotRuntime (s : State) (i : Slot) : Runtime := s.runtime[i]

/-- The commit mark of an engine (R156). -/
def State.commitMark (s : State) (g : Seg) : Bool := s.commitMarks[g]

/-- Writes the engine of a segment. -/
def State.setEngine (s : State) (g : Seg) (e : Engine) : State := { s with engines := s.engines.set g e }

/-- Writes an engine's state, keeping its settings (R107). -/
def State.setMode (s : State) (g : Seg) (m : EngineMode) : State := s.setEngine g { s.engine g with mode := m }

/-- Writes the list of a segment. -/
def State.setList (s : State) (g : Seg) (l : List Record) : State := { s with lists := s.lists.set g l }

/-- Writes the runtime of a slot. -/
def State.setRuntime (s : State) (i : Slot) (r : Runtime) : State := { s with runtime := s.runtime.set i r }

/-- Writes the Pointer of a slot; `none` is UNKNOWN (R9). -/
def State.setPointer (s : State) (i : Slot) (p : Option Word16) : State :=
  s.setRuntime i { s.slotRuntime i with pointer := p }

/-- Writes one field of the context, where there is one. -/
def State.onContext (s : State) (f : Context → Context) : State := { s with context := s.context.map f }

/-- Rebuilds every slot's runtime. -/
def State.mapRuntime (s : State) (f : Slot → Runtime → Runtime) : State :=
  { s with runtime := s.runtime.mapFinIdx fun i r h => f ⟨i, h⟩ r }

/-- The engine leaves BUSY for another state, which clears its commit mark (R156). -/
def State.leaveBusy (s : State) (g : Seg) (m : EngineMode) : State :=
  { s.setMode g m with commitMarks := s.commitMarks.set g false }

/-! ### Fault log (chapter 8) -/

/-- The entry of a kind with every optional field absent and every detail and flag 0 (R167). -/
def Entry.blank (k : Kind) : Entry :=
  { seqNumber := 0#16, kind := k, segment := none, slot := none, paddr := none, index := .absent, detailA := 0#8,
    detailB := 0#8, pass := false, record := false, superseded := false }

/-- Appends an entry: stored with the next sequence number, or counted as lost when the log is full (R173). -/
def State.append (s : State) (e : Entry) : State :=
  if s.log.length < Config.logSize then
    { s with log := s.log ++ [{ e with seqNumber := s.nextSeq }], nextSeq := s.nextSeq + 1#16 }
  else { s with lost := min Config.countMax (s.lost + 1) }

/-! ### Shadow cache (chapter 7) -/

/-- The value of the valid line of a key, if there is one (R152). -/
def lookup (c : List Line) (k : Key) : Option Byte := (c.find? (·.key == k)).map (·.value)

/-- Takes the line of a key away (R151). -/
def dropKey (c : List Line) (k : Key) : List Line := c.filter (·.key != k)

/-- Puts the line of a key at the front of the LRU order list with a value (R151). -/
def toFront (c : List Line) (k : Key) (v : Byte) : List Line := ⟨k, v⟩ :: dropKey c k

/-- Updates a line that is present and moves it to the front; an absent line stays absent (R154, R158, R159). -/
def updateLine (c : List Line) (k : Key) (v : Byte) : List Line := if (lookup c k).isSome then toFront c k v else c

/-- Allocates a line at the front; with all lines valid the line at the back is evicted (R155). -/
def allocateLine (c : List Line) (k : Key) (v : Byte) : List Line := ⟨k, v⟩ :: c.take (Config.cacheLines - 1)

/-- Takes away every line of a target (R161). -/
def dropTarget (c : List Line) (g : Seg) (pa : Addr) : List Line :=
  c.filter fun l => !(l.key.segment == g && l.key.paddr == pa)

/-- A byte read by an engine is offered to the cache with its key and the request's slot (R154, R156, R157). -/
def State.offer (s : State) (g : Seg) (slot : Slot) (k : Key) (b : Byte) : State :=
  if s.commitMark g || s.anyNames k.segment k.paddr then { s with cache := dropKey s.cache k }
  else if (lookup s.cache k).isSome then { s with cache := toFront s.cache k b }
  else if cacheableAt s.active s.active.routes[slot] k.index && (accessAt s.active s.active.routes[slot] k.index).reads then
    { s with cache := allocateLine s.cache k b }
  else s

/-- The key of a written byte; a raw route's bytes have none and are not reported (R69, R116). -/
def writeKey (w : IndexWidth) (g : Seg) (pa : Addr) (i : Word16) : Option Key :=
  if w.indexed then some ⟨g, pa, i⟩ else none

/-- A pass-through byte was acknowledged in time: its line is updated, or invalidated while the engine's commit mark is set
(R159). -/
def State.cacheWritten (s : State) (g : Seg) (k : Option Key) (b : Byte) : State :=
  match k with
  | none => s
  | some k => { s with cache := if s.commitMark g then dropKey s.cache k else updateLine s.cache k b }

/-- A pass-through byte was refused, late, faulted, aborted or not sent: its line is invalidated (R159). -/
def State.cacheUnsure (s : State) (k : Option Key) : State :=
  match k with
  | none => s
  | some k => { s with cache := dropKey s.cache k }

/-! ### The context's byte counts (chapters 2 and 3) -/

/-- One data byte acknowledged or delivered: Count, the current index, and while Follow is set the Pointer (R38, R39, R48). -/
def State.countByte (s : State) (c : Context) : State :=
  let i := c.index.map (advance c.route.width c.route.autoInc)
  let s1 := { s with context := some { c with count := min Config.countMax (c.count + 1), index := i } }
  if c.follow then s1.setPointer c.slot i else s1

/-- The record that the first accepted byte of a posted write opens (R79, R81). -/
def openedRecord (c : Context) (b : Byte) : Record :=
  { slot := c.slot, incarnation := c.incarnation, segment := c.route.segment, paddr := c.route.paddr, width := c.route.width,
    autoInc := c.route.autoInc, addrRetries := c.route.addrRetries, retryGap := c.route.retryGap,
    index := if c.route.width.indexed then c.index else none, data := [b], state := .opened, attempts := 0 }

/-- A posted byte is accepted into the record given: acknowledged, counted, and told to the cache (R63, R64, R158). -/
def State.acceptPosted (s : State) (c : Context) (r : Record) (b : Byte) : State :=
  let s1 := { s with openRecord := some r, answer := .ack }
  let s2 :=
    match writeKey c.route.width c.route.segment c.route.paddr (c.index.getD 0#16) with
    | none => s1
    | some k => { s1 with cache := updateLine s1.cache k b }
  s2.countByte c

/-- A free record goes to the byte that waits for one, and the hold at POST_BYTE ends (R82). -/
def State.grantRecord (s : State) : State :=
  match s.recordRequest, s.context with
  | some b, some c =>
    if s.inUse < Config.poolSize then
      let c1 := { c with hold := none }
      { s with recordRequest := none }.acceptPosted c1 (openedRecord c1 b) b
    else s
  | _, _ => s

/-! ### The arbiter (R109 to R113) -/

/-- A transaction for a request that the engine takes (R112). -/
def Transaction.ofRequest (r : Request) : Transaction :=
  { phase := .addressing, work := .request r, position := 0, readIndex := r.index.getD 0#16,
    writeIndex := r.index.getD 0#16, data := r.firstByte, refused := false, unanswered := r.kind == .write,
    entryOwed := false, out := .released }

/-- A transaction for the head record that the engine takes (R112). -/
def Transaction.ofRecord : Transaction :=
  { phase := .addressing, work := .record, position := 0, readIndex := 0#16, writeIndex := 0#16, data := 0#8,
    refused := false, unanswered := false, entryOwed := false, out := .released }

/-- The WAITING request for a segment that no record names the target of (R112, case 2). -/
def State.unblockedRequest (s : State) (g : Seg) : Option Request :=
  match s.context with
  | some c =>
    match c.request with
    | .waiting r => if r.segment == g && !s.anyNames g r.paddr then some r else none
    | _ => none
  | none => none

/-- The arbiter of an engine acts: in IDLE it takes the unblocked request, else the QUEUED head (R111, R112). -/
def State.arbiter (s : State) (g : Seg) : State :=
  match (s.engine g).mode with
  | .idle =>
    match s.unblockedRequest g with
    | some r => (s.setMode g (.busy (Transaction.ofRequest r))).onContext fun c => { c with request := .taken }
    | none =>
      match s.list g with
      | r :: rest =>
        if r.state = .queued then
          (s.setList g ({ r with state := .inFlight, attempts := r.attempts + 1 } :: rest)).setMode g
            (.busy Transaction.ofRecord)
        else s
      | [] => s
  | _ => s

/-! ### The end of a hold without the thing held for (R58, R60) -/

/-- The port answers at its hold point as the table of R58 gives, ends the hold and withdraws the request. The pool's request
for a record is withdrawn with it (R82). -/
def State.failHold (s : State) : State :=
  match s.context with
  | none => s
  | some c =>
    match c.hold with
    | none => s
    | some h =>
      match h.point with
      | .readAddress => { s with port := .upIgnore, answer := .nack, context := none }
      | .readByte =>
        { s with sending := some Config.filler,
                 context := some { c with hold := none, source := .filler, request := .absent } }
      | _ =>
        { s with answer := .nack, recordRequest := none,
                 context := some { c with hold := none, refusing := true, request := .absent } }

/-- The port NACKs the byte held at PASS_BYTE, mirroring the target (R66). -/
def State.nackHeldByte (s : State) : State :=
  { s with answer := .nack }.onContext fun c => { c with hold := none, refusing := true }

/-! ### Failure of a record (R92 to R95) -/

/-- The records of a slot and incarnation, the OPEN one among them (R93). -/
def State.countRoute (s : State) (i : Slot) (inc : Byte) : Nat := s.records.countP (·.belongs i inc)

/-- Discards every record of a slot and incarnation, the OPEN one among them (R93). The port refuses the rest of a write that
loses its record (R65). -/
def State.discardRoute (s : State) (i : Slot) (inc : Byte) : State :=
  let s1 := { s with lists := s.lists.map fun l => l.filter fun r => !r.belongs i inc }
  match s.openRecord with
  | some r =>
    if r.belongs i inc then { s1 with openRecord := none }.onContext fun c => { c with refusing := true } else s1
  | none => s1

/-- The route of a failed record: its later records are discarded, its State is FAULTED, its Pointer UNKNOWN and its Pending 0,
and the follow flag of an open sub-transaction through it is cleared (R93, R41). -/
def State.faultRoute (s : State) (i : Slot) (inc : Byte) : State :=
  let s1 := s.discardRoute i inc
  (s1.setRuntime i { s1.slotRuntime i with faulted := true, pointer := none, pending := 0 }).onContext fun c =>
    if c.slot = i then { c with follow := false } else c

/-- The failure of the record `r`, already taken from its list: the route, the later records, the cache and the log (R93 to
R95). Freed records are granted by the caller, after the engine's own state is set. -/
def State.failRecord (s : State) (r : Record) (kind : Kind) (index : Option Word16) (detailA : Byte) (segFault : Bool) :
    State :=
  let current := (s.slotRuntime r.slot).incarnation == r.incarnation
  let s1 := if current then s.faultRoute r.slot r.incarnation else s
  let n := if current then s.countRoute r.slot r.incarnation else 0
  { s1 with cache := dropTarget s1.cache r.segment r.paddr }.append
    { Entry.blank kind with
      segment := some r.segment, slot := some (r.slot, r.incarnation), paddr := some r.paddr,
      index := logIndex r.width index, detailA := detailA, detailB := byteOf n, record := segFault,
      superseded := !current }

/-- The number of a list's records that belong to a slot. -/
def countFor (l : List Record) (i : Slot) (inc : Byte) : Nat := l.countP (·.belongs i inc)

/-- A bulk discard of a segment's records (R97, R101): the list is emptied, each slot's Pending falls by its listed records,
an OPEN record that names the segment goes with them (R99), and one entry is appended where there was a record. -/
def State.bulkDiscard (s : State) (g : Seg) (cause : DiscardCause) : State :=
  let l := s.list g
  let opened := (s.openRecord.filter (·.segment == g)).isSome
  let n := l.length + (if opened then 1 else 0)
  let s1 := (s.setList g []).mapRuntime fun i rt => { rt with pending := rt.pending - countFor l i rt.incarnation }
  let s2 := if opened then { s1 with openRecord := none }.onContext fun c => { c with refusing := true } else s1
  let s3 :=
    if n = 0 then s2
    else
      s2.append
        { Entry.blank .recordsDiscarded with segment := some g, detailA := cause.value, detailB := byteOf n }
  s3.grantRecord

/-! ### Reports of a write byte that a withdrawn request leaves (R59, R61, R123, R124, R137) -/

/-- The fields of an entry about a request: its segment, slot, incarnation and target (R168). -/
def Entry.ofRequest (kind : Kind) (r : Request) : Entry :=
  { Entry.blank kind with
    segment := some r.segment, slot := some (r.slot, r.incarnation), paddr := some r.paddr }

/-- The outcome of the write byte in progress after a withdrawal: its line is invalidated, whichever the outcome (R159), and
the owed UP_HOLD_EXPIRED entry is appended with the delivered flag (R59). -/
def State.lateOutcome (s : State) (t : Transaction) (r : Request) (delivered : Bool) : State :=
  let s1 := s.cacheUnsure (writeKey r.width r.segment r.paddr t.writeIndex)
  if t.entryOwed then
    s1.append
      { Entry.ofRequest .upHoldExpired r with
        index := logIndex r.width (some t.writeIndex), detailA := HoldReason.target.value,
        detailB := holdDetail .passByte delivered }
  else s1

end Sys2Proof.Machine
end

