-- ==== Sys2Proof/Machine/Resets.lean ====
section
/-! DEFINITION. Power-on, RESET#, the sampling of the straps and the start-up interval (R149, R181, R182, R203). -/

namespace Sys2Proof.Machine

/-- Every field at its reset value; the queue of commands is outside the part, and the sampled MGA holds until the end of the
reset (R181). -/
def State.cleared (s : State) : State := { State.reset with mga := s.mga, pending := s.pending }

/-- POWER_ON_RESET: power-on, or VDD below 2.5 V (R149, R214). -/
def execPowerOnReset (s : State) : Host.Outcome State Fault Refusal := .next s.cleared

/-- RESET_ASSERTED: RESET# goes low (R149, R203). -/
def execResetAsserted (s : State) : Host.Outcome State Fault Refusal := .next s.cleared

/-- The management address that the straps give (R181). -/
def strapAddress (as1 as0 : Bool) : Addr := Config.managementBase + BitVec.ofNat 7 (2 * as1.toNat + as0.toNat)

/-- RESET_RELEASED: the straps are sampled and the start-up interval begins (R181, R182). -/
def execResetReleased (as1 as0 : Bool) (s : State) : Host.Outcome State Fault Refusal :=
  .next (if s.power = .inReset then { s with power := .startup, mga := strapAddress as1 as0 } else s)

/-- STARTUP_INTERVAL_ENDS: addresses are decided from here on (R182). -/
def execStartupIntervalEnds (s : State) : Host.Outcome State Fault Refusal :=
  .next (if s.power = .startup then { s with power := .running } else s)

end Sys2Proof.Machine
end

