-- ==== Sys2Proof/Machine/Engine.lean ====
section
/-! DEFINITION. The segment engines' events: start, the targets' answers, bytes read, the stop condition, retry gaps, and the
two segment faults (chapters 5 and 6). -/

namespace Sys2Proof.Machine

/-! ### Composition of a transaction (R114 to R118) -/

/-- The bytes of a record after PAddr+W: index, then data (R88, R115). -/
def Record.content (r : Record) : List Byte := indexBytes r.width (r.index.getD 0#16) ++ r.data

/-- The bytes of a request after PA+W: index, then FirstByte for a WRITE (R116, R118). -/
def Request.content (r : Request) : List Byte :=
  indexBytes r.width (r.index.getD 0#16) ++ (if r.kind = .write then [r.firstByte] else [])

/-- The direction of the address byte after S: PA+R for a raw read alone (R114). -/
def Request.startDirection (r : Request) : Direction := if r.kind = .rawRead then .read else .write

/-- The engine goes to STOPPING and makes P; `refused` says whether the target's NACK is what ended the work (R115, R118). -/
def Transaction.stopWith (t : Transaction) (refused : Bool) : Transaction :=
  { t with phase := .stopping, refused := refused, out := .stop }

/-- The engine makes Sr and sends PA+R (R118). -/
def Transaction.restart (t : Transaction) (pa : Addr) : Transaction :=
  { t with phase := .restarting, out := .byte (addressByte pa .read) }

/-- The engine goes to READING: eight bits are clocked in (R118). -/
def Transaction.read (t : Transaction) : Transaction := { t with phase := .reading, out := .released }

/-- The byte after the one at Position is sent, counted in Position as it begins (R103, R115); with none left, `ended`. -/
def Transaction.sendNext (t : Transaction) (w : IndexWidth) (content : List Byte) (ended : Transaction) : Transaction :=
  match content[t.position]? with
  | some b =>
    { t with phase := if t.position < w.bytes then .indexing else .writing,
             position := min Config.countMax (t.position + 1), out := .byte b }
  | none => ended

/-- The path of an orderly end from the phase it is called for in (R121). In the other phases the byte in progress is finished
first, and its answer leads on. -/
def Transaction.orderlyEnd (t : Transaction) : Transaction :=
  match t.phase with
  | .writeWait => { t with phase := .stopping, out := .stop }
  | .ackHold => { t with phase := .stopping, out := .ninthBit false .ackHold }
  | _ => t

/-- Writes the transaction of a BUSY engine. -/
def State.setBusy (s : State) (g : Seg) (t : Transaction) : State := s.setMode g (.busy t)

/-- The engine's TAKEN request is withdrawn or its upstream sub-transaction ends: Work becomes DETACHED, and the engine ends its
transaction at the first point the protocol allows (R123). `owed` is the Entry owed mark. -/
def State.detachEngine (s : State) (g : Seg) (owed : Bool) : State :=
  match (s.engine g).mode with
  | .busy t =>
    match t.work with
    | .request r => s.setBusy g { t.orderlyEnd with work := .detached r, entryOwed := owed }
    | _ => s
  | _ => s

/-- The engine ends its transaction while the request stays its Work: after a denied byte (R67, R72). -/
def State.endEngine (s : State) (g : Seg) : State :=
  match (s.engine g).mode with
  | .busy t =>
    match t.work with
    | .request _ => s.setBusy g t.orderlyEnd
    | _ => s
  | _ => s

/-! ### Reports to the port -/

/-- The target acknowledged PA+R. A read held at READ_ADDRESS is acknowledged, Follow is set on an indexed route whose Pointer
is KNOWN, and the hold for the first byte begins (R54, R71, R118). At a first miss the hold at READ_BYTE goes on. -/
def State.reportReadAck (s : State) : State :=
  match s.context with
  | none => s
  | some c =>
    match c.hold with
    | some h =>
      if h.point = .readAddress then
        { s with
          port := .upRead, answer := .ack,
          context := some
            { c with
              follow := c.route.width.indexed && (s.slotRuntime c.slot).pointer.isSome,
              hold := some ⟨.readByte, s.holdLimit⟩ } }
      else s
    | none => s

/-- The engine hands over a byte: the port sends it and its hold at READ_BYTE ends (R71, R119). -/
def State.handByte (s : State) (b : Byte) : State :=
  match s.hold with
  | some h =>
    if h.point = .readByte then { s with sending := some b }.onContext fun c => { c with hold := none } else s
  | none => s

/-- The target acknowledged the byte held at PASS_BYTE: the port acknowledges it (R66). -/
def State.ackHeldByte (s : State) : State :=
  match s.context with
  | some c =>
    match c.hold with
    | some h => if h.point = .passByte then { s with answer := .ack }.countByte { c with hold := none } else s
    | none => s
  | none => s

/-- The request is over for the port. -/
def State.dropRequest (s : State) : State := s.onContext fun c => { c with request := .absent }

/-! ### Answers of the target -/

/-- The address byte the Work of a transaction calls for (R114). -/
def State.startByte (s : State) (g : Seg) (t : Transaction) : Option Byte :=
  match t.work with
  | .record => (s.list g).head?.map fun r => addressByte r.paddr .write
  | .request r => some (addressByte r.paddr r.startDirection)
  | .detached r => some (addressByte r.paddr r.startDirection)

/-- A NACK of PA+W or of an index byte ends a request: a WRITE is refused at once, a read when P has been made (R116, R118). -/
def State.refuseOpening (s : State) (g : Seg) (t : Transaction) (r : Request) : State :=
  let s1 := s.setBusy g { t.stopWith true with unanswered := false }
  if r.kind = .write then (s1.cacheUnsure (writeKey r.width r.segment r.paddr t.writeIndex)).nackHeldByte else s1

/-- The target's answer to PA+W or to an index byte (R115, R116, R118, R121, R123). -/
def State.answerOpening (s : State) (g : Seg) (t : Transaction) (ack : Bool) : State :=
  match t.work with
  | .record =>
    match s.list g with
    | r :: _ =>
      s.setBusy g (if ack then t.sendNext r.width r.content (t.stopWith false) else t.stopWith true)
    | [] => s
  | .request r =>
    if ack then s.setBusy g (t.sendNext r.width r.content (t.restart r.paddr)) else s.refuseOpening g t r
  | .detached _ => s.setBusy g (t.stopWith false)

/-- The target's answer to PA+R (R118, R121): READING on ACK, also for a withdrawn read, which reads one byte more. -/
def State.answerReadAddress (s : State) (g : Seg) (t : Transaction) (ack : Bool) : State :=
  match t.work with
  | .record => s
  | .request _ => if ack then (s.setBusy g t.read).reportReadAck else s.setBusy g (t.stopWith true)
  | .detached _ => s.setBusy g (if ack then t.read else t.stopWith false)

/-- Whether the address byte of a transaction in ADDRESSING is PA+R (R114). -/
def Transaction.opensWithRead (t : Transaction) : Bool :=
  match t.work with
  | .record => false
  | .request r => r.startDirection == .read
  | .detached r => r.startDirection == .read

/-- The target's answer to a written data byte (R115, R116, R123). -/
def State.answerData (s : State) (g : Seg) (t : Transaction) (ack : Bool) : State :=
  match t.work with
  | .record =>
    match s.list g with
    | r :: _ =>
      s.setBusy g (if ack then t.sendNext r.width r.content (t.stopWith false) else t.stopWith true)
    | [] => s
  | .request r =>
    let k := writeKey r.width r.segment r.paddr t.writeIndex
    if ack then
      ((s.setBusy g { t with phase := .writeWait, unanswered := false, out := .released }).cacheWritten g k
        t.data).ackHeldByte
    else ((s.setBusy g { t.stopWith true with unanswered := false }).cacheUnsure k).nackHeldByte
  | .detached r =>
    (s.setBusy g { t.stopWith (!ack) with unanswered := false, entryOwed := false }).lateOutcome t r ack

/-! ### The end of an attempt of a record (R89 to R92, R115) -/

/-- The index that a failure entry names for the refused byte at a position (R92, R95). -/
def Record.refusedIndex (r : Record) (position : Nat) : Option Word16 :=
  if position ≤ r.width.bytes then r.index
  else r.index.map (advanceBy r.width r.autoInc (position - r.width.bytes - 1))

/-- A record delivered: freed, and Pending falls for the current incarnation (R89). -/
def State.recordSuccess (s : State) (g : Seg) (r : Record) (rest : List Record) : State :=
  let s1 := s.setList g rest
  let rt := s1.slotRuntime r.slot
  if rt.incarnation == r.incarnation then s1.setRuntime r.slot { rt with pending := rt.pending - 1 } else s1

/-- The outcome of an attempt, reported when P has been made (R115). -/
def State.reportAttempt (s : State) (g : Seg) (t : Transaction) : State :=
  match s.list g with
  | [] => s
  | r :: rest =>
    if !t.refused then s.recordSuccess g r rest
    else if t.position = 0 then
      if r.attempts ≤ r.addrRetries then s.setList g ({ r with state := .retryWait } :: rest)
      else (s.setList g rest).failRecord r .postAddrNack r.index (byteOf r.attempts) false
    else (s.setList g rest).failRecord r .postDataNack (r.refusedIndex t.position) (byteOf t.position) false

/-- What the engine reports when it has made P (R115, R118, R123). -/
def State.reportStop (s : State) (g : Seg) (t : Transaction) : State :=
  match t.work with
  | .record => s.reportAttempt g t
  | .request r => (if t.refused && r.kind != .write then s.failHold else s).dropRequest
  | .detached r => if t.unanswered then s.lateOutcome t r false else s

/-! ### Segment faults (R130 to R138) -/

/-- The index a pass-through fault's entry carries (R138). In the ninth bit of a byte read the byte is the one before (log entry
7). Where no byte is in progress (STOPPING), it is that of the last byte sent or read (DESIGN CHOICE, log entry 28, unsafe). -/
def faultIndex (t : Transaction) (r : Request) (during : Phase) : Word16 :=
  if r.kind = .write then t.writeIndex
  else if t.phase = .reading ∧ during = .ackHold then retreat r.width r.autoInc t.readIndex
  else t.readIndex

/-- The entry of a pass-through fault (R138, R170). -/
def faultEntry (kind : Kind) (t : Transaction) (r : Request) (during : Phase) : Entry :=
  { Entry.ofRequest kind r with
    index := logIndex r.width (if r.width.indexed then some (faultIndex t r during) else none),
    detailA := byteOf t.position, detailB := during.value, pass := true }

/-- The report of a segment fault to the owner of the engine's Work (R133 to R138). -/
def State.reportFault (s : State) (g : Seg) (t : Transaction) (kind : Kind) (during : Phase) : State :=
  match t.work with
  | .record =>
    match s.list g with
    | r :: rest => (s.setList g rest).failRecord r kind r.index (byteOf t.position) true
    | [] => s
  | .request r =>
    let s1 := s.append (faultEntry kind t r during)
    let s2 := if t.unanswered then s1.cacheUnsure (writeKey r.width r.segment r.paddr t.writeIndex) else s1
    s2.failHold.dropRequest
  | .detached r =>
    let s1 := s.append (faultEntry kind t r during)
    if t.unanswered then s1.lateOutcome t r false else s1

/-- The recovery procedure at its start (R139). -/
def Procedure.start (byCommand : Bool) : Procedure := { step := .opening, pulses := 0, byCommand := byCommand }

/-- A segment fault: the report, then RECOVERY; a freed record goes to the byte that waits for one (R133, R82). -/
def State.segmentFault (s : State) (g : Seg) (t : Transaction) (kind : Kind) (during : Phase) : State :=
  ((s.reportFault g t kind during).leaveBusy g (.recovery (Procedure.start false))).grantRecord

/-- The phase a timeout is noted in: the ninth bit of a byte read belongs to the phase that clocks it (R105, log entry 7). -/
def timeoutPhase (t : Transaction) (inNinthBit : Bool) : Phase :=
  match t.out with
  | .ninthBit _ during => if inNinthBit then during else t.phase
  | _ => t.phase

/-- Whether a low line can be timed: not while the engine itself holds SCL (R125, R131). -/
def Transaction.timed (t : Transaction) : Bool := t.phase != .writeWait && t.phase != .ackHold

/-- Whether the engine sends a bit as 1 that is compared: a byte other than 00h, Sr, or P (R132). -/
def Transaction.sendsOne (t : Transaction) : Bool :=
  match t.phase with
  | .stopping => true
  | .addressing | .indexing | .writing | .restarting =>
    match t.out with
    | .byte b => b != 0#8 || t.phase == .restarting
    | _ => false
  | _ => false

/-! ### An abort (R124) -/

/-- An abort cuts the transaction off: a DETACHED write byte not answered yet is reported as not acknowledged. The record of
Work RECORD is freed by the discard that follows (R97). The lines are left released. -/
def State.abortEngine (s : State) (g : Seg) : State :=
  match (s.engine g).mode with
  | .busy t =>
    match t.work with
    | .record => s
    | .request r => if t.unanswered then s.lateOutcome t r false else s
    | .detached r => if t.unanswered then s.lateOutcome t r false else s
  | _ => s

/-! ### The meanings -/

/-- DOWNSTREAM_START: an engine in ADDRESSING finds both lines high, makes S and sends its address byte (R114). -/
def execDownstreamStart (g : Seg) (s : State) : Host.Outcome State Fault Refusal :=
  .next <|
    match (s.engine g).mode with
    | .busy t =>
      if t.phase = .addressing ∧ t.out = .released then
        match s.startByte g t with
        | some b => s.setBusy g { t with out := .byte b }
        | none => s
      else s
    | _ => s

/-- DOWNSTREAM_ADDRESS_ANSWER: the target's answer to PA+W or PA+R (R105, R115, R116, R118). -/
def execDownstreamAddressAnswer (g : Seg) (ack : Bool) (s : State) : Host.Outcome State Fault Refusal :=
  .next <|
    match (s.engine g).mode with
    | .busy t =>
      if t.phase = .addressing ∧ t.out ≠ .released then
        if t.opensWithRead then s.answerReadAddress g t ack else s.answerOpening g t ack
      else if t.phase = .restarting then s.answerReadAddress g t ack
      else s
    | _ => s

/-- DOWNSTREAM_INDEX_ANSWER: the target's answer to an index byte (R105, R115, R116, R118). -/
def execDownstreamIndexAnswer (g : Seg) (ack : Bool) (s : State) : Host.Outcome State Fault Refusal :=
  .next <|
    match (s.engine g).mode with
    | .busy t => if t.phase = .indexing then s.answerOpening g t ack else s
    | _ => s

/-- DOWNSTREAM_DATA_ANSWER: the target's answer to a written data byte (R115 to R117, R123, R159). -/
def execDownstreamDataAnswer (g : Seg) (ack : Bool) (s : State) : Host.Outcome State Fault Refusal :=
  .next <|
    match (s.engine g).mode with
    | .busy t => if t.phase = .writing then s.answerData g t ack else s
    | _ => s

/-- DOWNSTREAM_BYTE_RECEIVED: eight bits have been clocked in; the byte is offered to the cache and handed to the port, or
answered by NACK when the Work is DETACHED (R119 to R121, R154). -/
def execDownstreamByteReceived (g : Seg) (b : Byte) (s : State) : Host.Outcome State Fault Refusal :=
  .next <|
    match (s.engine g).mode with
    | .busy t =>
      if t.phase = .reading then
        match t.work with
        | .record => s
        | .request r =>
          let s1 := if r.kind = .indexedRead then s.offer g r.slot ⟨r.segment, r.paddr, t.readIndex⟩ b else s
          (s1.setBusy g { t with phase := .ackHold, out := .released }).handByte b
        | .detached r =>
          let s1 := if r.kind = .indexedRead then s.offer g r.slot ⟨r.segment, r.paddr, t.readIndex⟩ b else s
          s1.setBusy g { t with phase := .stopping, out := .ninthBit false .reading }
      else s
    | _ => s

/-- DOWNSTREAM_STOP_MADE: P is made, the outcome is reported, the engine enters IDLE and the arbiter acts (R115, R121). -/
def execDownstreamStopMade (g : Seg) (s : State) : Host.Outcome State Fault Refusal :=
  .next <|
    match (s.engine g).mode with
    | .busy t =>
      if t.phase = .stopping then (((s.reportStop g t).leaveBusy g .idle).grantRecord).arbiter g else s
    | _ => s

/-- RETRY_GAP_EXPIRES: the head in RETRY_WAIT becomes QUEUED at the head, and the arbiter acts (R91). -/
def execRetryGapExpires (g : Seg) (s : State) : Host.Outcome State Fault Refusal :=
  .next <|
    match s.list g with
    | r :: rest =>
      if r.state = .retryWait then (s.setList g ({ r with state := .queued } :: rest)).arbiter g else s
    | [] => s

/-- SEG_TIMEOUT: a low or busy line reaches the Timeout (R131, R133). -/
def execSegTimeout (g : Seg) (inNinthBit : Bool) (s : State) : Host.Outcome State Fault Refusal :=
  .next <|
    match (s.engine g).mode with
    | .busy t => if t.timed then s.segmentFault g t .segTimeout (timeoutPhase t inNinthBit) else s
    | _ => s

/-- SEG_CONFLICT: SDA is sampled low while the engine sends a 1 (R132, R133). -/
def execSegConflict (g : Seg) (s : State) : Host.Outcome State Fault Refusal :=
  .next <|
    match (s.engine g).mode with
    | .busy t => if t.sendsOne then s.segmentFault g t .segConflict t.phase else s
    | _ => s

end Sys2Proof.Machine
end

