-- ==== Sys2Proof/Machine/Recovery.lean ====
section
/-! DEFINITION. The recovery procedure, its ends, and the STUCK segment (sections 6.3 and 6.4). -/

namespace Sys2Proof.Machine

/-- The management unit is told the outcome of a procedure that SEG_RECOVER started: byte 0 of the response changes if the
buffer still holds that command's response (R147, R194). -/
def State.completeRecovery (s : State) (g : Seg) (p : Procedure) (outcome : Code) : State :=
  if p.byCommand ∧ s.response.noted = .recovering g then { s with response := { s.response with code := outcome } } else s

/-- The procedure succeeds: IDLE, the completion OK, and the arbiter acts (R141). -/
def State.recovered (s : State) (g : Seg) (p : Procedure) : State :=
  ((s.setMode g .idle).completeRecovery g p .ok).arbiter g

/-- The upstream work that an entry to STUCK ends: the context, and whether it is a WAITING request (PASS) or a write held at
POST_BYTE (R142, R143). -/
def State.workWaitingOn (s : State) (g : Seg) : Option (Context × Bool) :=
  match s.context with
  | none => none
  | some c =>
    if c.route.segment = g then
      match c.request with
      | .waiting _ => some (c, true)
      | _ =>
        match c.hold with
        | some h => if h.point = .postByte then some (c, false) else none
        | none => none
    else none

/-- The SEG_STUCK entry (R142, R171). -/
def stuckEntry (g : Seg) (cause : StuckCause) (pulses : Nat) (w : Option (Context × Bool)) : Entry :=
  { Entry.blank .segStuck with
    segment := some g, slot := w.map fun x => (x.1.slot, x.1.incarnation), paddr := w.map fun x => x.1.route.paddr,
    detailA := cause.value, detailB := byteOf pulses, pass := (w.map (·.2)).getD false }

/-- The procedure fails: STUCK, its entry, the completion FAILED, the end of the upstream work that waits on the segment, and
the discard of the segment's records (R142, R143). -/
def State.becomeStuck (s : State) (g : Seg) (p : Procedure) (cause : StuckCause) : State :=
  let w := s.workWaitingOn g
  let s1 := ((s.setMode g .stuck).append (stuckEntry g cause p.pulses w)).completeRecovery g p .failed
  let s2 := if w.isSome then s1.failHold else s1
  s2.bulkDiscard g .stuck

/-- Writes the procedure of an engine in RECOVERY. -/
def State.setProcedure (s : State) (g : Seg) (p : Procedure) : State := s.setMode g (.recovery p)

/-- After a sample that found SDA low: a further pulse while fewer than nine were given, else failure (R140, R141). -/
def State.pulseOrFail (s : State) (g : Seg) (p : Procedure) : State :=
  if p.pulses < Config.recoveryPulses then s.setProcedure g { p with step := .pulse } else s.becomeStuck g p .sdaLow

/-- RECOVERY_OPENING_SAMPLE: SCL is high and SDA is sampled (R140). -/
def execRecoveryOpeningSample (g : Seg) (sda : Bool) (s : State) : Host.Outcome State Fault Refusal :=
  .next <|
    match (s.engine g).mode with
    | .recovery p =>
      if p.step = .opening then
        if sda then s.setProcedure g { p with step := .stop } else s.setProcedure g { p with step := .pulse }
      else s
    | _ => s

/-- RECOVERY_PULSE: a pulse completes with a sample of SDA and is counted (R140). -/
def execRecoveryPulse (g : Seg) (sda : Bool) (s : State) : Host.Outcome State Fault Refusal :=
  .next <|
    match (s.engine g).mode with
    | .recovery p =>
      if p.step = .pulse then
        let p1 := { p with pulses := p.pulses + 1 }
        if sda then s.setProcedure g { p1 with step := .stop } else s.pulseOrFail g p1
      else s
    | _ => s

/-- RECOVERY_STOP_CONDITION: SDA is released with SCL high and sampled (R141). -/
def execRecoveryStopCondition (g : Seg) (sda : Bool) (s : State) : Host.Outcome State Fault Refusal :=
  .next <|
    match (s.engine g).mode with
    | .recovery p => if p.step = .stop then if sda then s.recovered g p else s.pulseOrFail g p else s
    | _ => s

/-- RECOVERY_SCL_LOW: a wait for SCL to rise reaches the Timeout (R140 to R142). -/
def execRecoverySclLow (g : Seg) (s : State) : Host.Outcome State Fault Refusal :=
  .next <|
    match (s.engine g).mode with
    | .recovery p => s.becomeStuck g p .sclLow
    | _ => s

end Sys2Proof.Machine
end

