-- ==== Sys2Proof/WellFormed.lean ====
section
/-! DEFINITION. Well-formed commands: the operands of a BAD_COMMAND or BAD_LENGTH row are those of a frame that R185 and R188
complete so. Every other row's operands are of exact width, and an operand byte out of its range is refused by the command
itself with a completion code (R207), so nothing else is ill-formed. -/

namespace Sys2Proof

/-- The operands describe an event of the row they stand in (R185, R188). -/
def Instr.wf : Instr → Bool
  | .badCommand code _ => (operandLength code).isNone
  | .badLength frame overrun =>
    if overrun then frame.length == Config.commandBytes
    else
      match frame with
      | [] => false
      | [_] => true
      | code :: _ :: operands =>
        match operandLength code with
        | none => false
        | some n => operands.length != n && frame.length ≤ Config.commandBytes
  | _ => true

end Sys2Proof
end

