-- ==== Sys2Proof/Machine/Management.lean ====
section
/-! DEFINITION. The management unit: the twenty commands (R195), the frame's end (R185 to R188), and the rows of the table that
are the execution of one command. -/

namespace Sys2Proof.Machine

/-- What a command answers: its code, its payload, and the note kept with the buffer (R191, R195). -/
structure Reply where
  code : Code
  payload : List Byte
  noted : Execution
  deriving DecidableEq, Repr

/-- A reply of a code and a payload. -/
def reply (c : Code) (payload : List Byte) : Reply := ⟨c, payload, .other⟩

/-- A reply without payload. -/
def replyCode (c : Code) : Reply := reply c []

/-- The end of an execution: the response is written whole and the unit returns to NO_FRAME (R185, R193). -/
def State.finish (tag : Byte) (x : State × Reply) : State :=
  { x.1 with response := ⟨x.2.code, tag, x.2.payload, x.2.noted⟩, frame := .noFrame, buffer := [] }

/-- The levels sampled on a segment. -/
def levelOf (l : SegSamples) (g : Seg) : LineLevels :=
  match g with
  | 0 => l.seg0
  | 1 => l.seg1
  | 2 => l.seg2
  | 3 => l.seg3

/-- The same levels on every segment. -/
def sameLevels (l : LineLevels) : SegSamples := ⟨l, l, l, l⟩

/-! ### STATUS and SET_LIMITS -/

/-- STATUS (R197, R211). -/
def cmdStatus (s : State) : State × Reply :=
  (s,
   reply .ok
    (wordBytes s.generation ++
      [boolCode s.dirty, byteOf s.mga.toNat, (s.engine 0).mode.value, (s.engine 1).mode.value, (s.engine 2).mode.value,
       (s.engine 3).mode.value, byteOf s.inUse, byteOf s.log.length, byteOf s.lost, byteOf s.holdLimit, byteOf s.idleLimit,
       boolCode s.alertEnable]))

/-- SET_LIMITS: the four checks of R198 in their order, then all three together. -/
def cmdSetLimits (hold idle alert : Byte) (s : State) : State × Reply :=
  match numberOf 2 100 hold, numberOf 10 250 idle, boolOf alert with
  | some h, some i, some a =>
    if i ≤ h then (s, replyCode .badValue)
    else ({ s with holdLimit := h, idleLimit := i, alertEnable := a }, replyCode .ok)
  | _, _, _ => (s, replyCode .badValue)

/-! ### Tables (chapter 1) -/

/-- ROUTE_STAGE (R16, R207, R208). -/
def cmdRouteStage (slot : Byte) (image : RouteImage) (s : State) : State × Reply :=
  match slotOf slot with
  | none => (s, replyCode .badSlot)
  | some i =>
    match routeEntryOf image with
    | none => (s, replyCode .badValue)
    | some e => ({ s with staged := { s.staged with routes := s.staged.routes.set i e }, dirty := true }, replyCode .ok)

/-- ROUTE_UNSTAGE (R17). -/
def cmdRouteUnstage (slot : Byte) (s : State) : State × Reply :=
  match slotOf slot with
  | none => (s, replyCode .badSlot)
  | some i =>
    ({ s with staged := { s.staged with routes := s.staged.routes.set i RouteEntry.cleared }, dirty := true }, replyCode .ok)

/-- The copy that a selector names (R20, R206). -/
def State.copyOf (s : State) (copy : Byte) : Option Tables := (boolOf copy).map fun st => if st then s.staged else s.active

/-- ROUTE_QUERY (R20, R208). -/
def cmdRouteQuery (slot copy : Byte) (s : State) : State × Reply :=
  match slotOf slot with
  | none => (s, replyCode .badSlot)
  | some i =>
    match s.copyOf copy with
    | none => (s, replyCode .badValue)
    | some t => (s, reply .ok (routePayload t.routes[i]))

/-- WINDOW_STAGE (R18, R209). -/
def cmdWindowStage (window : Byte) (low high : Word16) (access cacheable : Byte) (s : State) : State × Reply :=
  match winOf window with
  | none => (s, replyCode .badSlot)
  | some i =>
    match accessOf access, boolOf cacheable with
    | some a, some c =>
      if high.toNat < low.toNat then (s, replyCode .badValue)
      else
        ({ s with staged := { s.staged with windows := s.staged.windows.set i ⟨low, high, a, c⟩ }, dirty := true }, replyCode .ok)
    | _, _ => (s, replyCode .badValue)

/-- WINDOW_QUERY (R20, R209). -/
def cmdWindowQuery (window copy : Byte) (s : State) : State × Reply :=
  match winOf window with
  | none => (s, replyCode .badSlot)
  | some i =>
    match s.copyOf copy with
    | none => (s, replyCode .badValue)
    | some t => (s, reply .ok (windowPayload t.windows[i]))

/-- The first check of R24 that a slot of a staged set fails. -/
def validateSlot (t : Tables) (mga : Addr) (i : Slot) : Option InvalidReason :=
  let r := t.routes[i]
  if !r.valid then none
  else if (List.finRange 32).any fun j => decide (j < i) && t.routes[j].valid && t.routes[j].vaddr == r.vaddr then
    some .dupVaddr
  else if r.vaddr == mga then some .mgmtVaddr
  else if r.width.indexed && (run t r).any fun w => decide (r.width.span ≤ w.high.toNat) then some .windowWidth
  else none

/-- Validation: the slots in ascending order, stopping at the first failure (R24). -/
def validate (t : Tables) (mga : Addr) : Option (InvalidReason × Slot) :=
  (List.finRange 32).findSome? fun i => (validateSlot t mga i).map fun why => (why, i)

/-- The identity of a slot's entry (R13). -/
def RouteEntry.sameIdentity (a b : RouteEntry) : Bool :=
  a.valid == b.valid && a.vaddr == b.vaddr && a.segment == b.segment && a.paddr == b.paddr && a.width == b.width

/-- The first incarnation from `inc` on that no record of the slot carries, looking at most `fuel` values ahead (R26). -/
def State.freeIncarnation (s : State) (i : Slot) (fuel : Nat) (inc : Byte) : Byte :=
  match fuel with
  | 0 => inc
  | n + 1 => if s.records.any (·.belongs i inc) then s.freeIncarnation i n (inc + 1#8) else inc

/-- The incarnation a changed identity gets (R26). -/
def State.nextIncarnation (s : State) (i : Slot) : Byte :=
  s.freeIncarnation i 256 ((s.slotRuntime i).incarnation + 1#8)

/-- COMMIT (R23 to R27, R156). -/
def cmdCommit (expected : Word16) (s : State) : State × Reply :=
  if expected ≠ s.generation then (s, reply .stale (wordBytes s.generation))
  else
    match validate s.staged s.mga with
    | some (why, i) => (s, reply .invalid [why.value, byteOf i.val])
    | none =>
      ({ s with
          active := s.staged, generation := s.generation + 1#16, dirty := false, cache := [],
          runtime := s.runtime.mapFinIdx fun i r h =>
            if s.active.routes[i].sameIdentity s.staged.routes[i] then r
            else { faulted := false, pointer := none, pending := 0, incarnation := s.nextIncarnation ⟨i, h⟩ },
          commitMarks := s.commitMarks.mapFinIdx fun g m h => m || s.engines[g].mode.isBusy },
       reply .ok (wordBytes (s.generation + 1#16)))

/-- ABANDON (R19). -/
def cmdAbandon (s : State) : State × Reply := ({ s with staged := s.active, dirty := false }, replyCode .ok)

/-- ROUTE_STATE (R21, R210). -/
def cmdRouteState (slot : Byte) (s : State) : State × Reply :=
  match slotOf slot with
  | none => (s, replyCode .badSlot)
  | some i => (s, reply .ok (routeStatePayload s.active.routes[i].valid (s.slotRuntime i)))

/-- ROUTE_RESUME (R22). -/
def cmdRouteResume (slot : Byte) (s : State) : State × Reply :=
  match slotOf slot with
  | none => (s, replyCode .badSlot)
  | some i => (s.setRuntime i { s.slotRuntime i with faulted := false }, replyCode .ok)

/-! ### Segments (chapters 5 and 6) -/

/-- SEG_CONFIG: BAD_SLOT, BAD_VALUE and BUSY in that order (R108). -/
def cmdSegConfig (segment speed timeout : Byte) (s : State) : State × Reply :=
  match segOf segment with
  | none => (s, replyCode .badSlot)
  | some g =>
    match speedOf speed, numberOf 1 100 timeout with
    | some v, some t =>
      match (s.engine g).mode with
      | .disabled => (s.setEngine g { mode := .disabled, speed := v, timeout := t }, replyCode .ok)
      | _ => (s, replyCode .busy)
    | _, _ => (s, replyCode .badValue)

/-- The state that a sample of the lines gives an engine: IDLE with both high, else RECOVERY begun afresh (R148). -/
def sampledMode (l : LineLevels) : EngineMode :=
  if l.scl && l.sda then .idle else .recovery (Procedure.start false)

/-- SEG_ENABLE (R126, R148). -/
def cmdSegEnable (segment : Byte) (lines : SegSamples) (s : State) : State × Reply :=
  match segOf segment with
  | none => (s, replyCode .badSlot)
  | some g =>
    match (s.engine g).mode with
    | .disabled => (s.setMode g (sampledMode (levelOf lines g)), reply .ok [(sampledMode (levelOf lines g)).value])
    | m => (s, reply .ok [m.value])

/-- Whether some record of a segment is present (R127). -/
def State.hasRecords (s : State) (g : Seg) : Bool := s.records.any fun r => r.segment == g

/-- SEG_DISABLE with FORCE where R127 sends it to R128: abort, discard, DISABLED. -/
def State.forceDisable (s : State) (g : Seg) : State :=
  (((s.abortEngine g).bulkDiscard g .force)).leaveBusy g .disabled

/-- SEG_DISABLE (R127, R128). -/
def cmdSegDisable (segment force : Byte) (s : State) : State × Reply :=
  match segOf segment with
  | none => (s, replyCode .badSlot)
  | some g =>
    match boolOf force with
    | none => (s, replyCode .badValue)
    | some f =>
      match (s.engine g).mode with
      | .disabled => (s, replyCode .ok)
      | .stuck => (s.setMode g .disabled, replyCode .ok)
      | m =>
        if m = .idle ∧ s.hasRecords g = false then (s.setMode g .disabled, replyCode .ok)
        else if f then (s.forceDisable g, replyCode .ok)
        else (s, replyCode .busy)

/-- SEG_RECOVER (R146). -/
def cmdSegRecover (segment : Byte) (s : State) : State × Reply :=
  match segOf segment with
  | none => (s, replyCode .badSlot)
  | some g =>
    match (s.engine g).mode with
    | .idle | .stuck =>
      (s.setMode g (.recovery (Procedure.start true)), ⟨.pending, [byteOf g.val], .recovering g⟩)
    | _ => (s, replyCode .busy)

/-! ### Cache and log commands (chapters 7 and 8) -/

/-- CACHE_INVALIDATE (R163, R196). -/
def cmdCacheInvalidate (scope slot : Byte) (s : State) : State × Reply :=
  match scope.toNat with
  | 0 => ({ s with cache := [] }, reply .ok [byteOf s.cache.length])
  | 1 =>
    match slotOf slot with
    | none => (s, replyCode .badSlot)
    | some i =>
      let r := s.active.routes[i]
      if r.valid then
        let kept := dropTarget s.cache r.segment r.paddr
        ({ s with cache := kept }, reply .ok [byteOf (s.cache.length - kept.length)])
      else (s, replyCode .badSlot)
  | _ => (s, replyCode .badValue)

/-- CACHE_PROBE (R164, R210). -/
def cmdCacheProbe (segment paddr : Byte) (index : Word16) (s : State) : State × Reply :=
  match segOf segment with
  | none => (s, replyCode .badSlot)
  | some g =>
    match addrOf paddr with
    | none => (s, replyCode .badValue)
    | some pa =>
      match lookup s.cache ⟨g, pa, index⟩ with
      | some v =>
        (s, reply .ok [boolCode true, v, byteOf (s.cache.findIdx fun l => l.key == ⟨g, pa, index⟩), byteOf s.cache.length])
      | none => (s, reply .ok [boolCode false, 0x00#8, 0x00#8, byteOf s.cache.length])

/-- LOG_READ (R176, R212). -/
def cmdLogRead (position : Byte) (s : State) : State × Reply :=
  match s.log[position.toNat]? with
  | some e => (s, reply .ok (e.image ++ [byteOf s.log.length, byteOf s.lost]))
  | none => (s, reply .badSlot [byteOf s.log.length, byteOf s.lost])

/-- LOG_RELEASE (R177, R212). -/
def cmdLogRelease (q : Word16) (s : State) : State × Reply :=
  match s.log.findIdx? fun e => e.seqNumber == q with
  | some k =>
    let rest := s.log.drop (k + 1)
    let lost := if rest.isEmpty then 0 else s.lost
    ({ s with log := rest, lost := lost }, reply .ok [byteOf (k + 1), byteOf rest.length, byteOf lost])
  | none =>
    (s, reply .badSeq (wordBytes ((s.log.head?.map (·.seqNumber)).getD 0#16) ++ [byteOf s.log.length]))

/-! ### WARM_RESTART -/

/-- One engine at WARM_RESTART: DISABLED and STUCK stay; the others abort or stop, and sample their lines (R129, R148). -/
def State.restartEngine (s : State) (lines : SegSamples) (g : Seg) : State :=
  match (s.engine g).mode with
  | .disabled | .stuck => s
  | _ => (s.abortEngine g).leaveBusy g (sampledMode (levelOf lines g))

/-- WARM_RESTART: the steps of R200 in their order, the engines and the segments each in ascending order (log entry 12). -/
def cmdWarmRestart (lines : SegSamples) (s : State) : State × Reply :=
  let s1 := (((s.restartEngine lines 0).restartEngine lines 1).restartEngine lines 2).restartEngine lines 3
  let s2 := (((s1.bulkDiscard 0 .warmRestart).bulkDiscard 1 .warmRestart).bulkDiscard 2 .warmRestart).bulkDiscard 3
    .warmRestart
  let s3 := { s2 with cache := [], commitMarks := Vector.replicate 4 false }
  (s3.mapRuntime fun _ rt => { rt with faulted := false, pointer := none, pending := 0 }, replyCode .ok)

/-! ### Execution of a frame -/

/-- A command at its owning block (R187, R188). -/
def perform (c : MgmtCommand) (lines : SegSamples) (s : State) : State × Reply :=
  match c with
  | .status => cmdStatus s
  | .setLimits hold idle alert => cmdSetLimits hold idle alert s
  | .warmRestart => cmdWarmRestart lines s
  | .routeStage slot image => cmdRouteStage slot image s
  | .routeUnstage slot => cmdRouteUnstage slot s
  | .routeQuery slot copy => cmdRouteQuery slot copy s
  | .windowStage w low high access cacheable => cmdWindowStage w low high access cacheable s
  | .windowQuery w copy => cmdWindowQuery w copy s
  | .commit expected => cmdCommit expected s
  | .abandon => cmdAbandon s
  | .routeState slot => cmdRouteState slot s
  | .routeResume slot => cmdRouteResume slot s
  | .segConfig g speed timeout => cmdSegConfig g speed timeout s
  | .segEnable g => cmdSegEnable g lines s
  | .segDisable g force => cmdSegDisable g force s
  | .segRecover g => cmdSegRecover g s
  | .cacheInvalidate scope slot => cmdCacheInvalidate scope slot s
  | .cacheProbe g pa index => cmdCacheProbe g pa index s
  | .logRead k => cmdLogRead k s
  | .logRelease q => cmdLogRelease q s

/-- The end of a management write: the frame checks, then the execution; the unit returns to NO_FRAME (R185, R187, R188). -/
def State.endFrame (s : State) (lines : SegSamples) : State :=
  match s.frame with
  | .noFrame => s
  | f =>
    match decodeFrame s.buffer (f == .overrun) with
    | .empty => { s with frame := .noFrame, buffer := [] }
    | .badLength tag => State.finish tag (s, replyCode .badLength)
    | .badCommand tag => State.finish tag (s, replyCode .badCommand)
    | .command tag c => State.finish tag (perform c lines s)

/-- A management command can execute: outside reset and the start-up interval, with no routed sub-transaction open (R182,
R187, R203; log entry 5). -/
def State.canExecute (s : State) : Bool := s.power == .running && s.context.isNone

/-- The execution of a command as an event of its own (R187, log entry 5). -/
def State.execute (s : State) (tag : Byte) (f : State → State × Reply) : Host.Outcome State Fault Refusal :=
  .next (if s.canExecute then State.finish tag (f s) else s)

/-! ### The meanings of the management rows -/

/-- BAD_COMMAND: a frame whose code names no command (R188). -/
def execBadCommand (code tag : Byte) (s : State) : Host.Outcome State Fault Refusal :=
  if (Instr.badCommand code tag).wf then s.execute tag fun t => (t, replyCode .badCommand) else .next s

/-- BAD_LENGTH: a frame of one byte, in OVERRUN, or with the wrong operand count (R185, R188); the tag is byte 1, 00h where there
is none (R189). -/
def execBadLength (frame : List Byte) (overrun : Bool) (s : State) : Host.Outcome State Fault Refusal :=
  if (Instr.badLength frame overrun).wf then s.execute (frame[1]?.getD 0#8) fun t => (t, replyCode .badLength) else .next s

/-- STATUS (R197). -/
def execStatus (tag : Byte) (s : State) : Host.Outcome State Fault Refusal := s.execute tag cmdStatus

/-- SET_LIMITS (R198). -/
def execSetLimits (tag hold idle alert : Byte) (s : State) : Host.Outcome State Fault Refusal :=
  s.execute tag (cmdSetLimits hold idle alert)

/-- WARM_RESTART (R200). -/
def execWarmRestart (tag : Byte) (lines : SegSamples) (s : State) : Host.Outcome State Fault Refusal :=
  s.execute tag (cmdWarmRestart lines)

/-- ROUTE_STAGE (R16). -/
def execRouteStage (tag slot : Byte) (image : RouteImage) (s : State) : Host.Outcome State Fault Refusal :=
  s.execute tag (cmdRouteStage slot image)

/-- ROUTE_UNSTAGE (R17). -/
def execRouteUnstage (tag slot : Byte) (s : State) : Host.Outcome State Fault Refusal :=
  s.execute tag (cmdRouteUnstage slot)

/-- ROUTE_QUERY (R20). -/
def execRouteQuery (tag slot copy : Byte) (s : State) : Host.Outcome State Fault Refusal :=
  s.execute tag (cmdRouteQuery slot copy)

/-- WINDOW_STAGE (R18). -/
def execWindowStage (tag window : Byte) (low high : Word16) (access cacheable : Byte) (s : State) :
    Host.Outcome State Fault Refusal :=
  s.execute tag (cmdWindowStage window low high access cacheable)

/-- WINDOW_QUERY (R20). -/
def execWindowQuery (tag window copy : Byte) (s : State) : Host.Outcome State Fault Refusal :=
  s.execute tag (cmdWindowQuery window copy)

/-- COMMIT (R25). -/
def execCommit (tag : Byte) (expected : Word16) (s : State) : Host.Outcome State Fault Refusal :=
  s.execute tag (cmdCommit expected)

/-- ABANDON (R19). -/
def execAbandon (tag : Byte) (s : State) : Host.Outcome State Fault Refusal := s.execute tag cmdAbandon

/-- ROUTE_STATE (R21). -/
def execRouteState (tag slot : Byte) (s : State) : Host.Outcome State Fault Refusal := s.execute tag (cmdRouteState slot)

/-- ROUTE_RESUME (R22). -/
def execRouteResume (tag slot : Byte) (s : State) : Host.Outcome State Fault Refusal := s.execute tag (cmdRouteResume slot)

/-- SEG_CONFIG (R108). -/
def execSegConfig (tag segment speed timeout : Byte) (s : State) : Host.Outcome State Fault Refusal :=
  s.execute tag (cmdSegConfig segment speed timeout)

/-- SEG_ENABLE (R126). -/
def execSegEnable (tag segment : Byte) (levels : LineLevels) (s : State) : Host.Outcome State Fault Refusal :=
  s.execute tag (cmdSegEnable segment (sameLevels levels))

/-- SEG_DISABLE (R127, R128). -/
def execSegDisable (tag segment force : Byte) (s : State) : Host.Outcome State Fault Refusal :=
  s.execute tag (cmdSegDisable segment force)

/-- SEG_RECOVER (R146). -/
def execSegRecover (tag segment : Byte) (s : State) : Host.Outcome State Fault Refusal := s.execute tag (cmdSegRecover segment)

/-- CACHE_INVALIDATE (R163). -/
def execCacheInvalidate (tag scope slot : Byte) (s : State) : Host.Outcome State Fault Refusal :=
  s.execute tag (cmdCacheInvalidate scope slot)

/-- CACHE_PROBE (R164). -/
def execCacheProbe (tag segment paddr : Byte) (index : Word16) (s : State) : Host.Outcome State Fault Refusal :=
  s.execute tag (cmdCacheProbe segment paddr index)

/-- LOG_READ (R176). -/
def execLogRead (tag position : Byte) (s : State) : Host.Outcome State Fault Refusal := s.execute tag (cmdLogRead position)

/-- LOG_RELEASE (R177). -/
def execLogRelease (tag : Byte) (q : Word16) (s : State) : Host.Outcome State Fault Refusal := s.execute tag (cmdLogRelease q)

end Sys2Proof.Machine
end

