-- ==== Sys2Proof/Machine/Upstream.lean ====
section
/-! DEFINITION. The upstream port: start and stop conditions, the address decision, written bytes, read bytes, and the hold and
idle limits (chapters 2 and 3). -/

namespace Sys2Proof.Machine

/-! ### Denials (R43, R44) -/

/-- The ACCESS_DENIED entry of a denial (R44, R172). -/
def denialEntry (i : Slot) (inc : Byte) (r : RouteEntry) (dir : Direction) (why : DenialReason) (index : Option Word16) :
    Entry :=
  { Entry.blank .accessDenied with
    segment := some r.segment, slot := some (i, inc), paddr := some r.paddr, index := logIndex r.width index,
    detailA := why.value, detailB := directionCode dir }

/-- A denied byte's entry: on a route whose active LogDenials is yes, once in a sub-transaction (R44). -/
def State.logDenial (s : State) (c : Context) : State :=
  if s.active.routes[c.slot].logDenials && !c.denialLogged then
    (s.append (denialEntry c.slot c.incarnation c.route c.direction .window c.index)).onContext fun c =>
      { c with denialLogged := true }
  else s

/-! ### Address decision (R49 to R54) -/

/-- The address is answered by NACK and the port goes to UP_IGNORE (R49, R51). -/
def State.nackAddress (s : State) : State := { s with port := .upIgnore, answer := .nack }

/-- The first check of R51 that refuses a routed address, with the index its denial carries (R43). -/
def State.addressCheck (s : State) (i : Slot) (dir : Direction) : Option (DenialReason × Option Word16) :=
  let r := s.active.routes[i]
  let rt := s.slotRuntime i
  if (s.engine r.segment).mode.outOfService then some (.segmentUnavailable, none)
  else if dir = .write ∧ rt.faulted then some (.routeFaulted, none)
  else if r.width = .raw then if r.defaultAccess.allows dir then none else some (.window, none)
  else
    match dir with
    | .write => none
    | .read =>
      match rt.pointer with
      | none => some (.pointerUnknown, none)
      | some p => if (accessAt s.active r p).reads then none else some (.window, some p)

/-- A new context (R48). Its Source is TARGET until an address decision or a read byte says otherwise; no rule gives the context of
a write a Source, and none reads it (DESIGN CHOICE, log entry 27). -/
def State.newContext (s : State) (i : Slot) (dir : Direction) : Context :=
  { slot := i, incarnation := (s.slotRuntime i).incarnation, route := s.active.routes[i], direction := dir, indexTaken := 0,
    indexHigh := 0#8, index := none, follow := false, source := .target, refusing := false, denialLogged := false,
    request := .absent, hold := none, count := 0 }

/-- The read request of a context: indexed at its current index, or raw (R54, R71, R109). -/
def Context.readRequest (c : Context) : Request :=
  { kind := if c.route.width.indexed then .indexedRead else .rawRead, slot := c.slot, incarnation := c.incarnation,
    segment := c.route.segment, paddr := c.route.paddr, width := c.route.width, autoInc := c.route.autoInc, index := c.index,
    firstByte := 0#8 }

/-- The write request of a context with its first data byte (R66, R109). -/
def Context.writeRequest (c : Context) (b : Byte) : Request :=
  { kind := .write, slot := c.slot, incarnation := c.incarnation, segment := c.route.segment, paddr := c.route.paddr,
    width := c.route.width, autoInc := c.route.autoInc, index := if c.route.width.indexed then c.index else none,
    firstByte := b }

/-- The port makes a request and holds at a hold point: the arbiter may take the request at once, and one made to an engine in
STUCK fails at once (R54, R66, R71, R109, R111). -/
def State.makeRequest (s : State) (c : Context) (r : Request) (p : HoldPoint) : State :=
  let s1 := { s with context := some { c with request := .waiting r, hold := some ⟨p, s.holdLimit⟩ } }
  if (s1.engine r.segment).mode = .stuck then s1.failHold else s1.arbiter r.segment

/-- A read address whose checks pass: a hit of the cache, or a decision by the target (R53, R54, R152). -/
def State.decodeRead (s : State) (i : Slot) : State :=
  let c := s.newContext i .read
  if c.route.width.indexed then
    let p := (s.slotRuntime i).pointer.getD 0#16
    let k : Key := ⟨c.route.segment, c.route.paddr, p⟩
    let c1 := { c with index := some p }
    match if cacheableAt s.active c.route p then lookup s.cache k else none with
    | some v =>
      { s with
        cache := toFront s.cache k v, port := .upRead, answer := .ack, sending := some v,
        context := some { c1 with source := .cache, follow := true } }
    | none => { s with answer := .released }.makeRequest c1 c1.readRequest .readAddress
  else { s with answer := .released }.makeRequest c c.readRequest .readAddress

/-- A routed address: the checks, then the write or the read (R51 to R54). -/
def State.decodeRouted (s : State) (i : Slot) (dir : Direction) : State :=
  match s.addressCheck i dir with
  | some (why, index) =>
    let r := s.active.routes[i]
    (if r.logDenials then s.append (denialEntry i (s.slotRuntime i).incarnation r dir why index) else s).nackAddress
  | none =>
    match dir with
    | .write =>
      { s with
        context := some (s.newContext i .write), answer := .ack,
        port := if s.active.routes[i].width.indexed then .upIndex else .upWrite }
    | .read => s.decodeRead i

/-- The management address acknowledged: a frame opens, or a read begins at byte 0 (R50, R183, R192). -/
def State.decodeManagement (s : State) (dir : Direction) : State :=
  match dir with
  | .write => { s with port := .upMgmtWrite, answer := .ack, frame := .collecting, buffer := [] }
  | .read => { s with port := .upMgmtRead, answer := .ack, readPos := 0, sending := some (s.response.byte 0) }

/-- ADDRESS_DECODE: a complete address byte is decided (R49 to R54). -/
def execAddressDecode (a : Addr) (dir : Direction) (s : State) : Host.Outcome State Fault Refusal :=
  .next <|
    if s.port = .upAddress ∧ s.context = none then
      if s.power ≠ .running ∨ reservedAddr a then s.nackAddress
      else if a = s.mga then s.decodeManagement dir
      else
        match findRoute s.active a with
        | none => s.nackAddress
        | some i => s.decodeRouted i dir
    else s

/-! ### Written bytes (R62 to R69) -/

/-- INDEX_BYTE: an index byte is absorbed; on the last one the index is complete (R28, R36, R62). -/
def execIndexByte (b : Byte) (s : State) : Host.Outcome State Fault Refusal :=
  .next <|
    match s.context with
    | some c =>
      if s.port = .upIndex then
        if c.route.width = .two ∧ c.indexTaken = 0 then
          { s with answer := .ack, context := some { c with indexTaken := 1, indexHigh := b } }
        else
          let i := if c.route.width = .two then joinBytes c.indexHigh b else joinBytes 0#8 b
          { s with
              answer := .ack, port := .upWrite,
              context := some { c with indexTaken := c.indexTaken + 1, index := some i, follow := true } }.setPointer c.slot
            (some i)
      else s
    | none => s

/-- A written byte is answered by NACK and the port refuses the rest of the write (R68). -/
def State.refuseByte (s : State) : State := { s with answer := .nack }.onContext fun c => { c with refusing := true }

/-- A denied written byte: NACK, the entry, Refusing, and the engine ends an open transaction of the write (R32, R64, R67). -/
def State.denyWrite (s : State) (c : Context) : State :=
  let s1 := (s.logDenial c).refuseByte
  match c.request with
  | .taken => s1.endEngine c.route.segment
  | _ => s1

/-- POSTED_DATA_BYTE: a data byte of a write on a POSTED route (R63, R64, R68). -/
def execPostedDataByte (b : Byte) (s : State) : Host.Outcome State Fault Refusal :=
  .next <|
    match s.context with
    | some c =>
      if s.port = .upWrite ∧ c.route.mode = .posted ∧ c.hold = none then
        if c.refusing then { s with answer := .nack }
        else if !byteAllowed s.active c.route .write c.index then s.denyWrite c
        else
          match s.openRecord with
          | some r =>
            if r.data.length < c.route.maxPost then s.acceptPosted c { r with data := r.data ++ [b] } b else s.refuseByte
          | none =>
            if (s.engine c.route.segment).mode.outOfService then s.refuseByte
            else if s.inUse < Config.poolSize then s.acceptPosted c (openedRecord c b) b
            else
              { s with
                answer := .released, recordRequest := some b,
                context := some { c with hold := some ⟨.postByte, s.holdLimit⟩ } }
      else s
    | none => s

/-- A later allowed byte is handed to the engine that waits in WRITE_WAIT, and the port holds for its answer (R67, R117). -/
def State.handWriteByte (s : State) (c : Context) (b : Byte) : State :=
  let s1 := { s with answer := .released, context := some { c with hold := some ⟨.passByte, s.holdLimit⟩ } }
  match (s.engine c.route.segment).mode with
  | .busy t =>
    if t.phase = .writeWait then
      s1.setBusy c.route.segment
        { t with
          phase := .writing, position := min Config.countMax (t.position + 1),
          writeIndex := advance c.route.width c.route.autoInc t.writeIndex, data := b, unanswered := true, out := .byte b }
    else s1
  | _ => s1

/-- PASS_DATA_BYTE: a data byte of a write on a PASS route (R66 to R68). -/
def execPassDataByte (b : Byte) (s : State) : Host.Outcome State Fault Refusal :=
  .next <|
    match s.context with
    | some c =>
      if s.port = .upWrite ∧ c.route.mode = .pass ∧ c.hold = none then
        if c.refusing then { s with answer := .nack }
        else if !byteAllowed s.active c.route .write c.index then s.denyWrite c
        else
          match c.request with
          | .taken => s.handWriteByte c b
          | _ =>
            if (s.engine c.route.segment).mode.outOfService then s.refuseByte
            else { s with answer := .released }.makeRequest c (c.writeRequest b) .passByte
      else s
    | none => s

/-- MGMT_WRITE_BYTE: a byte of a management write is stored, or refused past the twentieth (R183, R184). -/
def execMgmtWriteByte (b : Byte) (s : State) : Host.Outcome State Fault Refusal :=
  .next <|
    if s.port = .upMgmtWrite then
      match s.frame with
      | .noFrame => s
      | .collecting =>
        if s.buffer.length < Config.commandBytes then { s with answer := .ack, buffer := s.buffer ++ [b] }
        else { s with answer := .nack, frame := .overrun }
      | .overrun => { s with answer := .nack }
    else s

/-! ### Read bytes (R70 to R75) -/

/-- The byte just sent is delivered: Count and the current index move, and the Pointer follows, or becomes UNKNOWN behind a
filler byte (R39, R40, R70). -/
def State.deliver (s : State) (c : Context) : State :=
  match c.source with
  | .filler => ((s.countByte c).onContext fun c => { c with follow := false }).setPointer c.slot none
  | _ => s.countByte c

/-- The next byte is sent as filler (R73). -/
def State.sendFiller (s : State) : State :=
  { s with sending := some Config.filler }.onContext fun c => { c with source := .filler }

/-- The engine that holds a byte in ACK_HOLD acknowledges it and reads the next, and the port holds for that byte (R72, R119,
R120). -/
def State.readOn (s : State) (c : Context) : State :=
  let s1 := { s with sending := none, context := some { c with hold := some ⟨.readByte, s.holdLimit⟩ } }
  match (s.engine c.route.segment).mode with
  | .busy t =>
    if t.phase = .ackHold then
      s1.setBusy c.route.segment
        { t with
          phase := .reading,
          readIndex := if c.route.width.indexed then advance c.route.width c.route.autoInc t.readIndex else t.readIndex,
          out := .ninthBit true .ackHold }
    else s1
  | _ => s1

/-- The byte after an acknowledged one is decided (R33, R70 to R73). -/
def State.nextReadByte (s : State) (c : Context) : State :=
  match c.source with
  | .filler => s.sendFiller
  | .cache =>
    let i := c.index.getD 0#16
    let k : Key := ⟨c.route.segment, c.route.paddr, i⟩
    if !byteAllowed s.active c.route .read c.index then (s.logDenial c).sendFiller
    else
      match if cacheableAt s.active c.route i then lookup s.cache k else none with
      | some v => { s with cache := toFront s.cache k v, sending := some v }
      | none => { s with sending := none }.makeRequest { c with source := .target } c.readRequest .readByte
  | .target =>
    if byteAllowed s.active c.route .read c.index then s.readOn c
    else ((s.logDenial c).sendFiller).endEngine c.route.segment

/-- The master's answer to a routed read byte (R39, R70, R72, R74). -/
def State.routedReadAnswer (s : State) (c : Context) (ack : Bool) : State :=
  let s1 := s.deliver c
  if ack then
    match s1.context with
    | some c1 => s1.nextReadByte c1
    | none => s1
  else
    let s2 := { s1 with sending := none }
    match c.source with
    | .target => s2.endEngine c.route.segment
    | _ => s2

/-- READ_BYTE_ANSWER: the master's ACK or NACK of a routed read byte (R70); in a management read it moves to the next byte of the
response (R192, log entry 14). -/
def execReadByteAnswer (ack : Bool) (s : State) : Host.Outcome State Fault Refusal :=
  .next <|
    match s.sending with
    | none => s
    | some _ =>
      if s.port = .upMgmtRead then
        if ack then { s with readPos := s.readPos + 1, sending := some (s.response.byte (s.readPos + 1)) }
        else { s with sending := none }
      else if s.port = .upRead then
        match s.context with
        | some c => if c.hold = none then s.routedReadAnswer c ack else s
        | none => s
      else s

/-! ### The ends of a sub-transaction (R46, R77) -/

/-- A request of the context is withdrawn or ended: a TAKEN one makes its engine end the transaction (R46, R58, R77, R123). -/
def State.releaseRequest (s : State) (c : Context) (owed : Bool) : State :=
  match c.request with
  | .taken => s.detachEngine c.route.segment owed
  | _ => s

/-- The OPEN record of a write that ends is queued at the tail, its slot's Pending increases, and the arbiter acts on a record
that reaches the head (R85, R10, R111). -/
def State.queueOpen (s : State) : State :=
  match s.openRecord with
  | none => s
  | some r =>
    let rt := s.slotRuntime r.slot
    (({ s with openRecord := none }.setList r.segment (s.list r.segment ++ [{ r with state := .queued }])).setRuntime r.slot
        { rt with pending := rt.pending + 1 }).arbiter r.segment

/-- The end of a routed sub-transaction at P or Sr (R46): a partial index makes the Pointer UNKNOWN (R37), the request ends, the
context goes, and the record is queued. -/
def State.endRouted (s : State) : State :=
  match s.context with
  | none => s
  | some c =>
    let s1 := if s.port = .upIndex ∧ c.indexTaken = 1 then s.setPointer c.slot none else s
    { s1.releaseRequest c false with context := none }.queueOpen

/-- The end of the open sub-transaction, and the port's next state (R46). -/
def State.endSubTransaction (s : State) (lines : SegSamples) (next : PortState) : State :=
  let s1 := if s.port = .upMgmtWrite then s.endFrame lines else s.endRouted
  { s1 with port := next, answer := .released, sending := none }

/-- A START condition: S in UP_IDLE, Sr in any other state (R47). None can be made while the port holds SCLU (R46) or during a
reset (R45). -/
def State.startCondition (s : State) (lines : SegSamples) : State :=
  if s.scluHeld ∨ s.power = .inReset then s
  else if s.port = .upIdle then { s with port := .upAddress, answer := .released }
  else s.endSubTransaction lines .upAddress

/-- UPSTREAM_START (R47). -/
def execUpstreamStart (lines : SegSamples) (s : State) : Host.Outcome State Fault Refusal := .next (s.startCondition lines)

/-- UPSTREAM_REPEATED_START: the same condition on the wires, which R47 takes by the port's state (R46, R47). -/
def execUpstreamRepeatedStart (lines : SegSamples) (s : State) : Host.Outcome State Fault Refusal :=
  .next (s.startCondition lines)

/-- UPSTREAM_STOP: the sub-transaction ends and the port goes to UP_IDLE (R46). -/
def execUpstreamStop (lines : SegSamples) (s : State) : Host.Outcome State Fault Refusal :=
  .next (if s.scluHeld ∨ s.port = .upIdle then s else s.endSubTransaction lines .upIdle)

/-! ### The hold limit and the idle limit (R58, R59, R76, R77) -/

/-- The UP_HOLD_EXPIRED entry made at the moment of expiry (R59, R172). -/
def holdEntry (c : Context) (p : HoldPoint) (why : HoldReason) : Entry :=
  { Entry.blank .upHoldExpired with
    segment := some c.route.segment, slot := some (c.slot, c.incarnation), paddr := some c.route.paddr,
    index := logIndex c.route.width c.index, detailA := why.value, detailB := holdDetail p false }

/-- HOLD_LIMIT_EXPIRES: the port answers at its hold point and withdraws the request; the entry is made now, or owed by the engine
at PASS_BYTE with the request TAKEN (R58, R59, R123). -/
def execHoldLimitExpires (s : State) : Host.Outcome State Fault Refusal :=
  .next <|
    match s.context with
    | some c =>
      match c.hold with
      | some h =>
        let owed := h.point == .passByte && c.request == .taken
        let s1 := if owed then s else s.append (holdEntry c h.point (s.holdReason c h.point))
        (s1.releaseRequest c owed).failHold
      | none => s
    | none => s

/-- The UP_ABANDONED entry (R77, R172). -/
def abandonEntry (s : State) : Entry :=
  let e := { Entry.blank .upAbandoned with detailA := s.port.value }
  match s.context with
  | some c =>
    { e with
      segment := some c.route.segment, slot := some (c.slot, c.incarnation), paddr := some c.route.paddr,
      index := logIndex c.route.width c.index, detailB := byteOf c.count }
  | none => if s.port = .upMgmtWrite then { e with detailB := byteOf s.buffer.length } else e

/-- The work of an abandoned sub-transaction (R77): the request is withdrawn or ends its transaction, the OPEN record returns to
the pool, the Pointer becomes UNKNOWN, and a command frame is dropped. -/
def State.abandonWork (s : State) : State :=
  match s.context with
  | some c => { (s.releaseRequest c false).setPointer c.slot none with context := none, openRecord := none }
  | none => if s.port = .upMgmtWrite then { s with frame := .noFrame, buffer := [] } else s

/-- IDLE_LIMIT_EXPIRES: the open transaction is abandoned (R76, R77, R86, R186). The idle timer does not run while the port
holds. -/
def execIdleLimitExpires (s : State) : Host.Outcome State Fault Refusal :=
  .next <|
    if s.scluHeld ∨ s.port = .upIdle then s
    else if s.port = .upIgnore then { s with port := .upIdle, answer := .released }
    else
      { s.abandonWork with port := .upIdle, answer := .released, sending := none }.append (abandonEntry s)

end Sys2Proof.Machine
end

