-- ==== Sys2Proof/Machine/Dispatch.lean ====
section
/-! DEFINITION. The dispatch: one arm per command. -/

namespace Sys2Proof.Machine

def exec (i : Instr) (s : State) : Host.Outcome State Fault Refusal :=
  match i with
  | .powerOnReset => Sys2Proof.Machine.execPowerOnReset s
  | .resetAsserted => Sys2Proof.Machine.execResetAsserted s
  | .resetReleased as1 as0 => Sys2Proof.Machine.execResetReleased as1 as0 s
  | .startupIntervalEnds => Sys2Proof.Machine.execStartupIntervalEnds s
  | .upstreamStart lines => Sys2Proof.Machine.execUpstreamStart lines s
  | .addressDecode a dir => Sys2Proof.Machine.execAddressDecode a dir s
  | .indexByte b => Sys2Proof.Machine.execIndexByte b s
  | .postedDataByte b => Sys2Proof.Machine.execPostedDataByte b s
  | .passDataByte b => Sys2Proof.Machine.execPassDataByte b s
  | .readByteAnswer ack => Sys2Proof.Machine.execReadByteAnswer ack s
  | .mgmtWriteByte b => Sys2Proof.Machine.execMgmtWriteByte b s
  | .upstreamStop lines => Sys2Proof.Machine.execUpstreamStop lines s
  | .upstreamRepeatedStart lines => Sys2Proof.Machine.execUpstreamRepeatedStart lines s
  | .holdLimitExpires => Sys2Proof.Machine.execHoldLimitExpires s
  | .idleLimitExpires => Sys2Proof.Machine.execIdleLimitExpires s
  | .downstreamStart g => Sys2Proof.Machine.execDownstreamStart g s
  | .downstreamAddressAnswer g ack => Sys2Proof.Machine.execDownstreamAddressAnswer g ack s
  | .downstreamIndexAnswer g ack => Sys2Proof.Machine.execDownstreamIndexAnswer g ack s
  | .downstreamDataAnswer g ack => Sys2Proof.Machine.execDownstreamDataAnswer g ack s
  | .downstreamByteReceived g b => Sys2Proof.Machine.execDownstreamByteReceived g b s
  | .downstreamStopMade g => Sys2Proof.Machine.execDownstreamStopMade g s
  | .retryGapExpires g => Sys2Proof.Machine.execRetryGapExpires g s
  | .segTimeout g inNinthBit => Sys2Proof.Machine.execSegTimeout g inNinthBit s
  | .segConflict g => Sys2Proof.Machine.execSegConflict g s
  | .recoveryOpeningSample g sda => Sys2Proof.Machine.execRecoveryOpeningSample g sda s
  | .recoveryPulse g sda => Sys2Proof.Machine.execRecoveryPulse g sda s
  | .recoveryStopCondition g sda => Sys2Proof.Machine.execRecoveryStopCondition g sda s
  | .recoverySclLow g => Sys2Proof.Machine.execRecoverySclLow g s
  | .badCommand code tag => Sys2Proof.Machine.execBadCommand code tag s
  | .badLength frame overrun => Sys2Proof.Machine.execBadLength frame overrun s
  | .status tag => Sys2Proof.Machine.execStatus tag s
  | .setLimits tag hold idle alert => Sys2Proof.Machine.execSetLimits tag hold idle alert s
  | .warmRestart tag lines => Sys2Proof.Machine.execWarmRestart tag lines s
  | .routeStage tag slot image => Sys2Proof.Machine.execRouteStage tag slot image s
  | .routeUnstage tag slot => Sys2Proof.Machine.execRouteUnstage tag slot s
  | .routeQuery tag slot copy => Sys2Proof.Machine.execRouteQuery tag slot copy s
  | .windowStage tag window low high access cacheable => Sys2Proof.Machine.execWindowStage tag window low high access cacheable s
  | .windowQuery tag window copy => Sys2Proof.Machine.execWindowQuery tag window copy s
  | .commit tag expected => Sys2Proof.Machine.execCommit tag expected s
  | .abandon tag => Sys2Proof.Machine.execAbandon tag s
  | .routeState tag slot => Sys2Proof.Machine.execRouteState tag slot s
  | .routeResume tag slot => Sys2Proof.Machine.execRouteResume tag slot s
  | .segConfig tag segment speed timeout => Sys2Proof.Machine.execSegConfig tag segment speed timeout s
  | .segEnable tag segment levels => Sys2Proof.Machine.execSegEnable tag segment levels s
  | .segDisable tag segment force => Sys2Proof.Machine.execSegDisable tag segment force s
  | .segRecover tag segment => Sys2Proof.Machine.execSegRecover tag segment s
  | .cacheInvalidate tag scope slot => Sys2Proof.Machine.execCacheInvalidate tag scope slot s
  | .cacheProbe tag segment paddr index => Sys2Proof.Machine.execCacheProbe tag segment paddr index s
  | .logRead tag position => Sys2Proof.Machine.execLogRead tag position s
  | .logRelease tag seqNumber => Sys2Proof.Machine.execLogRelease tag seqNumber s

end Sys2Proof.Machine
end

