-- ==== Sys2Proof/Safety.lean ====
section
/-! DEFINITION. What a safe state of the part is: the invariants that the spec states in prose, each a proposition about the
state alone, in the terms the claims use. -/

namespace Sys2Proof.Machine

/-- R149, R203, R45, R78, R151, R166: throughout a reset every item stands at its reset value; in the start-up interval (R49,
R182) only the port can have moved, answering addresses by NACK, and with it the log, by abandons. -/
def State.ResetOk (s : State) : Prop :=
  (s.power = .inReset → s = { State.reset with mga := s.mga, pending := s.pending }) ∧
  (s.power = .startup →
    (s.port = .upIdle ∨ s.port = .upAddress ∨ s.port = .upIgnore) ∧
    s = { State.reset with
            power := .startup, mga := s.mga, port := s.port, answer := s.answer, log := s.log, nextSeq := s.nextSeq,
            lost := s.lost, pending := s.pending })

/-- R166, R173, R175: at most 16 entries, whose Seq values are consecutive and end one below the next sequence number; a lost
count of at most 255 that is above 0 only beside a non-empty list. -/
def State.LogOk (s : State) : Prop :=
  s.log.length ≤ Config.logSize ∧ s.lost ≤ Config.countMax ∧ (s.log = [] → s.lost = 0) ∧
  ∀ k : Fin s.log.length, s.log[k].seqNumber = s.nextSeq - BitVec.ofNat 16 (s.log.length - k.val)

/-- R150, R151: at most 128 valid lines, no two with the same key, each once in the LRU order list. -/
def State.CacheOk (s : State) : Prop := s.cache.length ≤ Config.cacheLines ∧ (s.cache.map (·.key)).Nodup

/-- R78: at most 48 records in use. -/
def State.PoolOk (s : State) : Prop := s.inUse ≤ Config.poolSize

/-- R198: the hold limit is 2 to 100 ms, the idle limit 10 to 250 ms and greater. -/
def State.LimitsOk (s : State) : Prop :=
  2 ≤ s.holdLimit ∧ s.holdLimit ≤ 100 ∧ 10 ≤ s.idleLimit ∧ s.idleLimit ≤ 250 ∧ s.holdLimit < s.idleLimit

/-- R183, R184, R191: at most 20 bytes are buffered, none without a frame, all 20 in OVERRUN, and a payload fits its buffer. -/
def State.FrameOk (s : State) : Prop :=
  s.buffer.length ≤ Config.commandBytes ∧ (s.frame = .noFrame → s.buffer = []) ∧
  (s.frame = .overrun → s.buffer.length = Config.commandBytes) ∧ s.response.payload.length + 3 ≤ Config.responseBytes

/-- Section 1.2: every field in its range, and the cleared content where Valid is no (R2, R16). -/
def RouteEntry.Ok (r : RouteEntry) : Prop :=
  (r.valid = false → r = RouteEntry.cleared) ∧ reservedAddr r.vaddr = false ∧ reservedAddr r.paddr = false ∧
  1 ≤ r.maxPost ∧ r.maxPost ≤ 16 ∧ r.addrRetries ≤ 15 ∧ 1 ≤ r.retryGap ∧ r.retryGap ≤ 255 ∧ r.winFirst ≤ 63 ∧
  r.winCount ≤ 16 ∧ r.winFirst + r.winCount ≤ 64

/-- Sections 1.2 and 1.3: every entry of a copy in range, and no window whose Low is above its High (R18). -/
def Tables.Ok (t : Tables) : Prop :=
  (∀ i : Slot, t.routes[i].Ok) ∧ ∀ j : Win, t.windows[j].low.toNat ≤ t.windows[j].high.toNat

/-- R24, R181: both copies in range; the valid active entries have VAddrs that differ from one another and from the MGA, and no
window of a valid indexed route's run reaches past the route's index width; the MGA is 70h to 73h. -/
def State.TablesOk (s : State) : Prop :=
  s.active.Ok ∧ s.staged.Ok ∧ 0x70 ≤ s.mga.toNat ∧ s.mga.toNat ≤ 0x73 ∧
  (∀ i : Slot, s.active.routes[i].valid = true → s.active.routes[i].vaddr ≠ s.mga) ∧
  (∀ i j : Slot, i ≠ j → s.active.routes[i].valid = true → s.active.routes[j].valid = true →
    s.active.routes[i].vaddr ≠ s.active.routes[j].vaddr) ∧
  ∀ i : Slot, s.active.routes[i].valid = true → s.active.routes[i].width ≠ .raw →
    ∀ w ∈ run s.active s.active.routes[i], w.high.toNat < s.active.routes[i].width.span

/-- The port states in which a routed write or read is open, with the direction of each, and UP_ADDRESS during a hold (R48,
R54). -/
def Context.FitsPort (c : Context) (p : PortState) : Prop :=
  match p with
  | .upAddress => c.direction = .read ∧ ∃ h ∈ c.hold, h.point = .readAddress
  | .upIndex => c.direction = .write ∧ c.hold = none ∧ c.request = .absent ∧ c.route.width ≠ .raw ∧ c.count = 0
  | .upWrite => c.direction = .write ∧ ∀ h ∈ c.hold, h.point = .passByte ∨ h.point = .postByte
  | .upRead => c.direction = .read ∧ ∀ h ∈ c.hold, h.point = .readByte
  | _ => False

/-- R48, R55, R63, R66, R70, R73: what a context's hold and request are on a route of its mode, and what its Source tells of
them. That the Source of a write is TARGET is no rule's clause but the model's (DESIGN CHOICE, log entry 27). -/
def Context.Fits (c : Context) : Prop :=
  (∀ h ∈ c.hold, h.point = .passByte ∨ h.point = .readAddress ∨ h.point = .readByte → c.request ≠ .absent) ∧
  (∀ h ∈ c.hold, h.point = .postByte → c.request = .absent ∧ c.route.mode = .posted) ∧
  (c.hold = none → c.request = .absent ∨ c.request = .taken) ∧
  (c.direction = .write → c.request ≠ .absent → c.route.mode = .pass) ∧
  (c.direction = .write → c.source = .target) ∧ (c.source = .cache → c.request = .absent) ∧
  (c.source = .filler → c.hold = none) ∧ (c.follow = true → c.route.width ≠ .raw)

/-- R48, R65, R82, R85, R187: a frame is open in UP_MGMT_WRITE alone; a context is there exactly where a routed address has passed
its checks, holds its slot's active entry and current incarnation, and owns the OPEN record and the request for a record; that
request waits only while no record is free, for a segment in service (R63, R82, R143). -/
def State.ContextOk (s : State) : Prop :=
  (s.frame ≠ .noFrame → s.port = .upMgmtWrite) ∧
  match s.context with
  | none =>
    s.openRecord = none ∧ s.recordRequest = none ∧ s.port ≠ .upIndex ∧ s.port ≠ .upWrite ∧ s.port ≠ .upRead
  | some c =>
    c.FitsPort s.port ∧ c.Fits ∧ c.route = s.active.routes[c.slot] ∧ c.route.valid = true ∧
    c.incarnation = (s.slotRuntime c.slot).incarnation ∧
    (s.recordRequest.isSome = true ↔ ∃ h ∈ c.hold, h.point = .postByte) ∧
    (s.recordRequest.isSome = true →
      (s.engine c.route.segment).mode.outOfService = false ∧ Config.poolSize ≤ s.inUse) ∧
    ∀ r ∈ s.openRecord,
      s.port = .upWrite ∧ c.hold = none ∧ c.route.mode = .posted ∧ r.slot = c.slot ∧ r.incarnation = c.incarnation ∧
        r.segment = c.route.segment ∧ r.paddr = c.route.paddr

/-- Whether an engine is delivering the head record of its segment (R103). -/
def EngineMode.deliversRecord : EngineMode → Bool
  | .busy t => t.work == .record
  | _ => false

/-- R80, R87, R97, R103: a listed record stands in the list of its Segment and is not OPEN; every record behind the head is
QUEUED; the head is IN_FLIGHT exactly while its engine delivers it; a segment in DISABLED or STUCK has no record. -/
def State.QueueOk (s : State) : Prop :=
  (∀ r ∈ s.openRecord, r.state = .opened ∧ (s.engine r.segment).mode.outOfService = false) ∧
  ∀ g : Seg,
    (∀ r ∈ s.list g, r.segment = g ∧ r.state ≠ .opened) ∧ (∀ r ∈ (s.list g).tail, r.state = .queued) ∧
    ((s.engine g).mode.deliversRecord = true ↔ ∃ r ∈ (s.list g).head?, r.state = .inFlight) ∧
    ((s.engine g).mode.outOfService = true → s.list g = [])

/-- Whether an engine carries a request that is still the context's (Work REQUEST, R103). -/
def EngineMode.carriesRequest : EngineMode → Bool
  | .busy t => (match t.work with | .request _ => true | _ => false)
  | _ => false

/-- R103, R109: the request of the context is TAKEN exactly while the engine of its route's segment carries it, and no other
engine carries one. -/
def State.RequestOk (s : State) : Prop :=
  ∀ g : Seg, (s.engine g).mode.carriesRequest = true ↔
    ∃ c ∈ s.context, c.request = .taken ∧ c.route.segment = g

/-- The number of a slot's records in the four lists that carry an incarnation (R10). -/
def State.listed (s : State) (i : Slot) (inc : Byte) : Nat := s.lists.toList.flatten.countP (·.belongs i inc)

/-- R10: for every slot, Pending is the number of listed records of its current incarnation. -/
def State.PendingOk (s : State) : Prop :=
  ∀ i : Slot, (s.slotRuntime i).pending = s.listed i (s.slotRuntime i).incarnation

/-- R4, R9, R21: the Pointer of a raw route and of an invalid slot is UNKNOWN, and that of a width-1 route is at most 255. -/
def State.PointerOk (s : State) : Prop :=
  (∀ i : Slot, ∀ p ∈ (s.slotRuntime i).pointer,
    s.active.routes[i].valid = true ∧ s.active.routes[i].width ≠ .raw ∧ p.toNat < s.active.routes[i].width.span) ∧
  ∀ c ∈ s.context, ∀ i ∈ c.index, c.route.width ≠ .raw ∧ i.toNat < c.route.width.span

/-- R156: a commit mark is set only on an engine that is BUSY. -/
def State.MarksOk (s : State) : Prop := ∀ g : Seg, s.commitMark g = true → (s.engine g).mode.isBusy = true

/-- Whether the active tables lead a slot to a target at a cacheable index (R35, R150). -/
def State.leadsTo (s : State) (i : Slot) (k : Key) : Prop :=
  s.active.routes[i].valid = true ∧ s.active.routes[i].segment = k.segment ∧ s.active.routes[i].paddr = k.paddr ∧
  cacheableAt s.active s.active.routes[i] k.index = true

/-- R150: every valid line's key is a cacheable index of a valid active route to its target. -/
def State.LinesOk (s : State) : Prop := ∀ l ∈ s.cache, ∃ i : Slot, s.leadsTo i l.key

/-- The request an engine carries, withdrawn or not (R103, R123). -/
def EngineMode.request : EngineMode → Option Request
  | .busy t => (match t.work with | .request r => some r | .detached r => some r | .record => none)
  | _ => none

/-- R3, R27, R109: a request names the target of its slot's active entry, unless a commit has marked its engine since. -/
def State.RoutesOk (s : State) : Prop :=
  ∀ g : Seg, ∀ r ∈ (s.engine g).mode.request, r.segment = g ∧
    (s.commitMark g = false →
      s.active.routes[r.slot].valid = true ∧ s.active.routes[r.slot].segment = r.segment ∧
        s.active.routes[r.slot].paddr = r.paddr)

/-- R11, R13, R93: a record of its slot's current incarnation names the target of the slot's active entry, so that all such records
of a slot lie on one segment. -/
def State.RecordsOk (s : State) : Prop :=
  ∀ r ∈ s.records, r.incarnation = (s.slotRuntime r.slot).incarnation →
    s.active.routes[r.slot].valid = true ∧ s.active.routes[r.slot].segment = r.segment ∧
      s.active.routes[r.slot].paddr = r.paddr

/-- The phases a request of a kind passes through (R105, R114 to R119). -/
def RequestKind.passes : RequestKind → Phase → Bool
  | .write, .restarting => false
  | .write, .reading => false
  | .write, .ackHold => false
  | .indexedRead, .writing => false
  | .indexedRead, .writeWait => false
  | .rawRead, .indexing => false
  | .rawRead, .writing => false
  | .rawRead, .writeWait => false
  | .rawRead, .restarting => false
  | _, _ => true

/-- The byte that a write request carries is still to be answered in these phases (R116, R117). -/
def Phase.beforeAnswer : Phase → Bool
  | .addressing | .indexing | .writing => true
  | _ => false

/-- R103, R105, R115 to R123: the phase, the Position and the marks of a transaction fit its Work. -/
def Transaction.Fits (t : Transaction) : Prop :=
  t.position ≤ Config.countMax ∧ (t.phase = .addressing → t.position = 0) ∧
  match t.work with
  | .record =>
    (t.phase.beforeAnswer = true ∨ t.phase = .stopping) ∧ t.unanswered = false ∧ t.entryOwed = false
  | .request r =>
    r.kind.passes t.phase = true ∧ (t.phase = .indexing → t.position ≤ r.width.bytes) ∧ t.entryOwed = false ∧
    (t.unanswered = true ↔ r.kind = .write ∧ t.phase.beforeAnswer = true)
  | .detached r =>
    r.kind.passes t.phase = true ∧ t.phase ≠ .writeWait ∧ t.phase ≠ .ackHold ∧ (t.unanswered = true → r.kind = .write) ∧
    (t.entryOwed = true → t.unanswered = true)

/-- R105, R121, R140: every transaction fits its Work, and a procedure has given at most nine pulses, fewer before a further one. -/
def State.EnginesOk (s : State) : Prop :=
  ∀ g : Seg,
    match (s.engine g).mode with
    | .busy t => t.Fits
    | .recovery p =>
      p.pulses ≤ Config.recoveryPulses ∧ (p.step = .opening → p.pulses = 0) ∧
        (p.step = .pulse → p.pulses < Config.recoveryPulses)
    | _ => True

/-- A request is the context's own (R48, R109). -/
def Context.Makes (c : Context) (r : Request) : Prop :=
  r.slot = c.slot ∧ r.segment = c.route.segment ∧ r.paddr = c.route.paddr ∧ (r.kind = .write ↔ c.direction = .write)

/-- R54, R66, R67, R71, R72, R118, R119: how the port's hold stands to the engine that has taken its request. A write holds exactly
while its byte is unanswered, and until a byte is refused the engine waits in WRITE_WAIT for the next. A read holds until a byte is
handed over, or its refusal is reported at P; without a hold the engine waits for the master's answer to the byte sent, or is
ending. -/
def Context.Awaits (c : Context) (t : Transaction) (sending : Option Byte) : Prop :=
  match c.direction with
  | .write =>
    (t.unanswered = true ↔ c.hold.isSome = true) ∧ (c.hold = none → c.refusing = false → t.phase = .writeWait)
  | .read =>
    match c.hold with
    | some h =>
      (t.phase = .addressing ∨ t.phase = .indexing ∨ t.phase = .restarting ∨ (t.phase = .stopping ∧ t.refused = true)) ∨
        (t.phase = .reading ∧ h.point = .readByte)
    | none => (t.phase = .ackHold ∧ c.source = .target ∧ sending.isSome = true) ∨ t.phase = .stopping

/-- R48, R54, R66, R72, R103: a WAITING request is the context's own; so is a TAKEN one, and the port awaits what its engine is
doing; a byte sent from the target is one that the engine holds in ACK_HOLD. -/
def State.WorkOk (s : State) : Prop :=
  ∀ c ∈ s.context,
    (∀ r, c.request = .waiting r → c.Makes r) ∧
    (∀ t r, c.request = .taken → (s.engine c.route.segment).mode = .busy t → t.work = .request r →
      c.Makes r ∧ c.Awaits t s.sending) ∧
    (s.port = .upRead → c.source = .target → c.hold = none → s.sending.isSome = true →
      c.request = .taken ∧ ∀ t, (s.engine c.route.segment).mode = .busy t → t.phase = .ackHold)

/-- Every invariant: what the statements on steps assume of a state. -/
def State.Ok (s : State) : Prop :=
  s.ResetOk ∧ s.LogOk ∧ s.CacheOk ∧ s.PoolOk ∧ s.LimitsOk ∧ s.FrameOk ∧ s.TablesOk ∧ s.ContextOk ∧ s.QueueOk ∧ s.RequestOk ∧
  s.PendingOk ∧ s.PointerOk ∧ s.MarksOk ∧ s.LinesOk ∧ s.RoutesOk ∧ s.RecordsOk ∧ s.EnginesOk ∧ s.WorkOk

/-! ### The words of the claims -/

/-- A management command can execute: the part runs and no routed sub-transaction is open (R182, R187, R203). -/
def State.Ready (s : State) : Prop := s.power = .running ∧ s.context = none

/-- The state after a command that answers a code and a payload: the response is written whole and the unit is in NO_FRAME (R185,
R193). -/
def State.answered (s : State) (tag : Byte) (code : Code) (payload : List Byte) : State :=
  { s with response := ⟨code, tag, payload, .other⟩, frame := .noFrame, buffer := [] }

/-- An address byte is decided, and is neither reserved nor the MGA (R49, R50). -/
def State.Decides (s : State) (a : Addr) : Prop :=
  s.port = .upAddress ∧ s.context = none ∧ s.power = .running ∧ reservedAddr a = false ∧ a ≠ s.mga

/-- A slot, and no other, claims an address in the active table (R3, R24). -/
def State.Claims (s : State) (i : Slot) (a : Addr) : Prop :=
  s.active.routes[i].valid = true ∧ s.active.routes[i].vaddr = a ∧
  ∀ j : Slot, s.active.routes[j].valid = true → s.active.routes[j].vaddr = a → j = i

/-- The state after a denial at the address: NACK, UP_IGNORE, and one entry where LogDenials is yes (R44, R51). -/
def State.denied (s : State) (i : Slot) (dir : Direction) (why : DenialReason) (index : Option Word16) : State :=
  let r := s.active.routes[i]
  let e : Entry :=
    { seqNumber := 0#16, kind := .accessDenied, segment := some r.segment, slot := some (i, (s.slotRuntime i).incarnation),
      paddr := some r.paddr, index := logIndex r.width index, detailA := why.value, detailB := directionCode dir,
      pass := false, record := false, superseded := false }
  { (if r.logDenials then s.append e else s) with port := .upIgnore, answer := .nack }

/-- A routed write is open, of a mode, and takes its next data byte (R63, R66). -/
def State.Writes (s : State) (c : Context) (m : Mode) : Prop :=
  s.context = some c ∧ s.port = .upWrite ∧ c.route.mode = m ∧ c.hold = none ∧ c.refusing = false

/-- A routed read is open, and a byte of it has been sent (R70). -/
def State.Reads (s : State) (c : Context) (src : Source) : Prop :=
  s.context = some c ∧ s.port = .upRead ∧ c.hold = none ∧ c.source = src ∧ s.sending.isSome = true

/-- The context after one byte is acknowledged or delivered: Count, saturating, and the current index (R38, R39, R48). -/
def Context.counted (c : Context) : Context :=
  { c with count := min 255 (c.count + 1), index := c.index.map (advance c.route.width c.route.autoInc) }

/-- The Pointer follows the current index while Follow is set (R38, R39). -/
def State.followed (s : State) (c : Context) : State :=
  if c.follow then s.setPointer c.slot (c.index.map (advance c.route.width c.route.autoInc)) else s

/-- The state after a byte is denied at its index: one ACCESS_DENIED entry of reason WINDOW, where LogDenials is yes in the active
entry and none was made in the sub-transaction (R43, R44). -/
def State.byteDenied (s : State) (c : Context) : State :=
  if s.active.routes[c.slot].logDenials = true ∧ c.denialLogged = false then
    s.append
      { seqNumber := 0#16, kind := .accessDenied, segment := some c.route.segment, slot := some (c.slot, c.incarnation),
        paddr := some c.route.paddr, index := logIndex c.route.width c.index, detailA := 0x04#8,
        detailB := directionCode c.direction, pass := false, record := false, superseded := false }
  else s

/-- The record of a posted byte's route and index, OPEN with that byte alone (R79, R81). -/
def Context.recordOf (c : Context) (b : Byte) : Record :=
  { slot := c.slot, incarnation := c.incarnation, segment := c.route.segment, paddr := c.route.paddr, width := c.route.width,
    autoInc := c.route.autoInc, addrRetries := c.route.addrRetries, retryGap := c.route.retryGap,
    index := if c.route.width = .raw then none else c.index, data := [b], state := .opened, attempts := 0 }

/-- The key under which a context's next byte lies in the cache (R150, R152). -/
def Context.key (c : Context) (i : Word16) : Key := ⟨c.route.segment, c.route.paddr, i⟩

/-- An engine takes work: BUSY in ADDRESSING, nothing sent yet (R112, R114). -/
def Transaction.fresh (w : Work) (index : Word16) (data : Byte) (unanswered : Bool) : Transaction :=
  { phase := .addressing, work := w, position := 0, readIndex := index, writeIndex := index, data := data, refused := false,
    unanswered := unanswered, entryOwed := false, out := .released }

/-- An engine carries a transaction (R102). -/
def State.Carries (s : State) (g : Seg) (t : Transaction) : Prop := (s.engine g).mode = .busy t

/-- An engine carries a request as the Work of a transaction (R103). -/
def State.CarriesRequest (s : State) (g : Seg) (t : Transaction) (r : Request) : Prop := s.Carries g t ∧ t.work = .request r

/-- An engine delivers the head record of its segment (R103). -/
def State.CarriesRecord (s : State) (g : Seg) (t : Transaction) (r : Record) (rest : List Record) : Prop :=
  s.Carries g t ∧ t.work = .record ∧ s.list g = r :: rest

/-- The orderly end from each phase: P from WRITE_WAIT, NACK and P from ACK_HOLD; elsewhere the byte in progress is finished
first (R121). -/
def Transaction.ended (t : Transaction) : Transaction :=
  if t.phase = .writeWait then { t with phase := .stopping, out := .stop }
  else if t.phase = .ackHold then { t with phase := .stopping, out := .ninthBit false .ackHold }
  else t

/-- The command that reports the target's answer to the byte sent in a phase (R105). -/
def answerRow (g : Seg) (ack : Bool) : Phase → Option Instr
  | .addressing => some (.downstreamAddressAnswer g ack)
  | .indexing => some (.downstreamIndexAnswer g ack)
  | .writing => some (.downstreamDataAnswer g ack)
  | .restarting => some (.downstreamAddressAnswer g ack)
  | _ => none

/-- A byte of a transaction is on the wires, and the target's answer to it comes as a command (R105, R114). -/
def State.Answers (s : State) (g : Seg) (t : Transaction) (ack : Bool) (row : Instr) : Prop :=
  s.Carries g t ∧ t.out ≠ .released ∧ answerRow g ack t.phase = some row

/-- The index bytes of a width, high byte first (R88, R115, R116). -/
def IndexWidth.bytesOf (w : IndexWidth) (i : Word16) : List Byte :=
  match w with
  | .raw => []
  | .one => [i.setWidth 8]
  | .two => [i.extractLsb' 8 8, i.setWidth 8]

/-- The port answers at a hold point without the thing it holds for, and withdraws the request (table of R58). -/
def State.holdEnded (s : State) (c : Context) (p : HoldPoint) : State :=
  match p with
  | .readAddress => { s with port := .upIgnore, answer := .nack, context := none }
  | .passByte =>
    { s with
      answer := .nack, recordRequest := none,
      context := some { c with hold := none, refusing := true, request := .absent } }
  | .postByte =>
    { s with
      answer := .nack, recordRequest := none,
      context := some { c with hold := none, refusing := true, request := .absent } }
  | .readByte =>
    { s with sending := some 0xFF#8, context := some { c with hold := none, source := .filler, request := .absent } }

/-- The cache without the line of a write byte: indexed routes alone have one (R69, R159). -/
def State.lineDropped (s : State) (r : Request) (i : Word16) : List Line :=
  if r.width = .raw then s.cache else s.cache.filter fun l => decide (l.key ≠ ⟨r.segment, r.paddr, i⟩)

/-- The entry about a pass-through request or an upstream sub-transaction: its route's fields and the details (R138, R168). -/
def Request.entry (r : Request) (kind : Kind) (index : Option Word16) (detailA detailB : Byte) (pass : Bool) : Entry :=
  { seqNumber := 0#16, kind := kind, segment := some r.segment, slot := some (r.slot, r.incarnation), paddr := some r.paddr,
    index := logIndex r.width index, detailA := detailA, detailB := detailB, pass := pass, record := false, superseded := false }

/-- The entry about an open routed sub-transaction (R59, R77, R168). -/
def Context.entry (c : Context) (kind : Kind) (detailA detailB : Byte) : Entry :=
  { seqNumber := 0#16, kind := kind, segment := some c.route.segment, slot := some (c.slot, c.incarnation),
    paddr := some c.route.paddr, index := logIndex c.route.width c.index, detailA := detailA, detailB := detailB, pass := false,
    record := false, superseded := false }

/-- The entry of a failed record (R95). -/
def Record.entry (r : Record) (kind : Kind) (index : Option Word16) (detailA detailB : Byte) (segFault superseded : Bool) :
    Entry :=
  { seqNumber := 0#16, kind := kind, segment := some r.segment, slot := some (r.slot, r.incarnation), paddr := some r.paddr,
    index := logIndex r.width index, detailA := detailA, detailB := detailB, pass := false, record := segFault,
    superseded := superseded }

/-- An engine has left BUSY for IDLE, its commit mark cleared (R156). -/
def State.idled (s : State) (g : Seg) : State := { s.setMode g .idle with commitMarks := s.commitMarks.set g false }

/-- An engine has left BUSY for a recovery procedure that no command started (R133, R139). -/
def State.recovering (s : State) (g : Seg) : State :=
  { s.setMode g (.recovery { step := .opening, pulses := 0, byCommand := false }) with commitMarks := s.commitMarks.set g false }

/-- The state after the failure of a record of its slot's current incarnation, the record itself already off its list: the other
records of the slot and incarnation are gone, the OPEN one and with it the rest of its write too, the route is FAULTED with its
Pointer UNKNOWN and Pending 0, and the target has no line (R41, R65, R93, R95). -/
def State.routeFailed (s : State) (r : Record) : State :=
  let gone (x : Record) : Bool := x.slot == r.slot && x.incarnation == r.incarnation
  let lost := s.openRecord.any gone
  { s with
    lists := s.lists.map fun l => l.filter fun x => !gone x,
    openRecord := if lost then none else s.openRecord,
    runtime := s.runtime.set r.slot
      { faulted := true, pointer := none, pending := 0, incarnation := (s.slotRuntime r.slot).incarnation },
    context := s.context.map fun c =>
      { c with refusing := c.refusing || lost, follow := c.follow && decide (c.slot ≠ r.slot) },
    cache := s.cache.filter fun l => decide ¬(l.key.segment = r.segment ∧ l.key.paddr = r.paddr) }

/-- The state after a failed record has been dealt with and logged: by R93 where its incarnation is current, else superseded
(R94, R95). -/
def State.afterFailure (s : State) (r : Record) (kind : Kind) (index : Option Word16) (detailA : Byte) (segFault : Bool) : State :=
  if (s.slotRuntime r.slot).incarnation = r.incarnation then
    (s.routeFailed r).append
      (r.entry kind index detailA
        (BitVec.ofNat 8 (s.records.countP fun x => x.slot == r.slot && x.incarnation == r.incarnation)) segFault false)
  else
    { s with cache := s.cache.filter fun l => decide ¬(l.key.segment = r.segment ∧ l.key.paddr = r.paddr) }.append
      (r.entry kind index detailA 0#8 segFault true)

/-- The state after a bulk discard of a segment's records (R97, R99, R101): the list is empty, each slot's Pending falls by its
listed records of the current incarnation, an OPEN record of the segment goes and its write is refused, and one entry is appended
where there was a record. -/
def State.discarded (s : State) (g : Seg) (cause : Byte) : State :=
  let lost := s.openRecord.any fun x => x.segment == g
  let n := (s.list g).length + lost.toNat
  let u : State :=
    { s.setList g [] with
      openRecord := if lost then none else s.openRecord,
      context := s.context.map fun c => { c with refusing := c.refusing || lost },
      runtime := s.runtime.mapFinIdx fun i rt h =>
        { rt with pending := rt.pending - (s.list g).countP (·.belongs ⟨i, h⟩ rt.incarnation) } }
  if n = 0 then u
  else
    u.append
      { seqNumber := 0#16, kind := .recordsDiscarded, segment := some g, slot := none, paddr := none, index := .absent,
        detailA := cause, detailB := BitVec.ofNat 8 n, pass := false, record := false, superseded := false }

/-- A procedure that SEG_RECOVER started completes the response that the buffer still holds of it (R147, R194). -/
def State.completed (s : State) (g : Seg) (p : Procedure) (code : Code) : State :=
  if p.byCommand = true ∧ s.response.noted = .recovering g then { s with response := { s.response with code := code } } else s

/-- The state after an engine's head record is taken for delivery, where it is QUEUED (R88, R112). -/
def State.headTaken (s : State) (g : Seg) : State :=
  match s.list g with
  | [] => s
  | h :: rest =>
    if h.state = .queued then
      (s.setList g ({ h with state := .inFlight, attempts := h.attempts + 1 } :: rest)).setMode g
        (.busy (Transaction.fresh .record 0#16 0#8 false))
    else s

/-- The state after the report of an abort: a write byte not answered yet loses its line, and the entry that its withdrawal left
owed is appended with the delivered flag clear (R124, R159). -/
def State.aborted (s : State) (g : Seg) : State :=
  let late (t : Transaction) (r : Request) : State :=
    if t.unanswered then
      let u := { s with cache := s.lineDropped r t.writeIndex }
      if t.entryOwed then u.append (r.entry .upHoldExpired (some t.writeIndex) 0x04#8 0x01#8 false) else u
    else s
  match (s.engine g).mode with
  | .busy t => (match t.work with | .record => s | .request r => late t r | .detached r => late t r)
  | _ => s

/-- A slot of a table set passes the three checks of R24. -/
def Tables.Passes (t : Tables) (mga : Addr) (i : Slot) : Prop :=
  t.routes[i].valid = true →
    (∀ j : Slot, j < i → t.routes[j].valid = true → t.routes[j].vaddr ≠ t.routes[i].vaddr) ∧ t.routes[i].vaddr ≠ mga ∧
    (t.routes[i].width ≠ .raw → ∀ w ∈ run t t.routes[i], w.high.toNat < t.routes[i].width.span)

/-- The row of the table that executes a management command (R187). -/
def managementRow (tag : Byte) (lines : SegSamples) (levels : LineLevels) : MgmtCommand → Instr
  | .status => .status tag
  | .setLimits hold idle alert => .setLimits tag hold idle alert
  | .warmRestart => .warmRestart tag lines
  | .routeStage slot image => .routeStage tag slot image
  | .routeUnstage slot => .routeUnstage tag slot
  | .routeQuery slot copy => .routeQuery tag slot copy
  | .windowStage w low high access cacheable => .windowStage tag w low high access cacheable
  | .windowQuery w copy => .windowQuery tag w copy
  | .commit expected => .commit tag expected
  | .abandon => .abandon tag
  | .routeState slot => .routeState tag slot
  | .routeResume slot => .routeResume tag slot
  | .segConfig g speed timeout => .segConfig tag g speed timeout
  | .segEnable g => .segEnable tag g levels
  | .segDisable g force => .segDisable tag g force
  | .segRecover g => .segRecover tag g
  | .cacheInvalidate scope slot => .cacheInvalidate tag scope slot
  | .cacheProbe g pa index => .cacheProbe tag g pa index
  | .logRead k => .logRead tag k
  | .logRelease q => .logRelease tag q

/-- A command executes a management command: it is the command's row, or the end of a management write whose frame decodes to it
(R46, R47, R187). -/
def State.Executes (s : State) (c : Instr) (m : MgmtCommand) : Prop :=
  ∃ tag lines levels,
    c = managementRow tag lines levels m ∨
      (s.port = .upMgmtWrite ∧ decodeFrame s.buffer (s.frame == .overrun) = .command tag m ∧
        (c = .upstreamStop lines ∨ c = .upstreamRepeatedStart lines ∨ c = .upstreamStart lines))

/-- The segment of an event of one segment's bus (R102). -/
def busSegment : Instr → Option Seg
  | .downstreamStart g => some g
  | .downstreamAddressAnswer g _ => some g
  | .downstreamIndexAnswer g _ => some g
  | .downstreamDataAnswer g _ => some g
  | .downstreamByteReceived g _ => some g
  | .downstreamStopMade g => some g
  | .retryGapExpires g => some g
  | .segTimeout g _ => some g
  | .segConflict g => some g
  | .recoveryOpeningSample g _ => some g
  | .recoveryPulse g _ => some g
  | .recoveryStopCondition g _ => some g
  | .recoverySclLow g => some g
  | _ => none

end Sys2Proof.Machine
end

