-- ==== Sys2Proof/Certificates/Slice0/Obligations.lean ====
section
/-! DEFINITION. The statements for the provers. Each one's docstring names the rules it comes from. -/

open Sys2Proof Sys2Proof.Machine

/-! ### The queue and the resets -/

/-- The block's step: the command at the front of the queue runs on the state with the rest of the queue. -/
def Obligations.StepRunsFrontCommand : Prop :=
  ∀ (c : Instr) (rest : List Instr) (s : State), step { s with pending := c :: rest } = exec c { s with pending := rest }

/-- No command stops the part, and none touches the queue (log entry 4: the model's reading of R8 to R203, which give every
failure as an effect). -/
def Obligations.EveryCommandCompletes : Prop :=
  ∀ (c : Instr) (s : State), ∃ t, exec c s = .next t ∧ t.pending = s.pending

/-- R2, R12, R14, R15, R45, R78, R102, R107, R151, R156, R166, R180, R191, R198, R203: what a reset leaves, and that the
invariants below hold there. -/
def Obligations.ResetValues : Prop :=
  (∀ i : Slot, State.reset.active.routes[i] = RouteEntry.cleared ∧ State.reset.staged.routes[i] = RouteEntry.cleared ∧
    State.reset.runtime[i] = { faulted := false, pointer := none, pending := 0, incarnation := 0#8 }) ∧
  (∀ j : Win, State.reset.active.windows[j] = ⟨0#16, 0#16, .none, false⟩ ∧
    State.reset.staged.windows[j] = ⟨0#16, 0#16, .none, false⟩) ∧
  State.reset.generation = 0#16 ∧ State.reset.dirty = false ∧ State.reset.port = .upIdle ∧ State.reset.context = none ∧
  (∀ g : Seg, State.reset.list g = [] ∧ State.reset.engine g = { mode := .disabled, speed := .khz100, timeout := 25 } ∧
    State.reset.commitMark g = false) ∧
  State.reset.inUse = 0 ∧ State.reset.cache = [] ∧ State.reset.log = [] ∧ State.reset.nextSeq = 0#16 ∧ State.reset.lost = 0 ∧
  State.reset.frame = .noFrame ∧ State.reset.response.code = .none ∧ State.reset.response.tag = 0#8 ∧
  State.reset.response.payload = [] ∧ State.reset.response.noted = .none ∧ State.reset.holdLimit = 30 ∧
  State.reset.idleLimit = 50 ∧ State.reset.alertEnable = true ∧ State.reset.alertLow = false

/-- The invariants that the statements on steps keep hold at reset. That the MGA is one of 70h to 73h before its first sampling is the
model's choice (log entry 1). -/
def Obligations.InvariantsAtReset : Prop := State.reset.Ok

/-- R149, R181, R182, R203: power-on and RESET# set every item to its reset value and keep the sampled MGA until the straps are
sampled at the end of the reset, which starts the start-up interval, at whose end the part runs. -/
def Obligations.ResetSequence : Prop :=
  (∀ s : State, exec .powerOnReset s = .next { State.reset with mga := s.mga, pending := s.pending } ∧
    exec .resetAsserted s = .next { State.reset with mga := s.mga, pending := s.pending }) ∧
  (∀ (as1 as0 : Bool) (s : State), s.power = .inReset →
    exec (.resetReleased as1 as0) s =
      .next
        { s with
          power := .startup,
          mga := if as1 then (if as0 then 0x73#7 else 0x72#7) else (if as0 then 0x71#7 else 0x70#7) }) ∧
  ∀ s : State, s.power = .startup → exec .startupIntervalEnds s = .next { s with power := .running }

/-! ### The upstream port -/

/-- R45, R46, R47, R49, R50: a START in UP_IDLE goes to UP_ADDRESS, under either name of the condition (log entry 11); an Sr or a P
in UP_IGNORE, in UP_MGMT_READ, or in UP_ADDRESS before a context is there, ends the sub-transaction with no effect on any block. -/
def Obligations.StartsAndIgnoredEnds : Prop :=
  (∀ (l : SegSamples) (s : State), s.port = .upIdle → s.context = none → s.power ≠ .inReset →
    exec (.upstreamStart l) s = .next { s with port := .upAddress, answer := .released } ∧
    exec (.upstreamRepeatedStart l) s = .next { s with port := .upAddress, answer := .released }) ∧
  ∀ (l : SegSamples) (s : State), s.port = .upIgnore ∨ s.port = .upMgmtRead ∨ s.port = .upAddress → s.context = none →
    s.power ≠ .inReset →
    exec (.upstreamRepeatedStart l) s = .next { s with port := .upAddress, answer := .released, sending := none } ∧
    exec (.upstreamStart l) s = .next { s with port := .upAddress, answer := .released, sending := none } ∧
    exec (.upstreamStop l) s = .next { s with port := .upIdle, answer := .released, sending := none }

/-- R49, R50, R183, R192: a reserved address, an address that neither the MGA nor a valid active route claims, and every address
outside the running part, is answered by NACK with no other effect; the MGA is acknowledged in both directions, a write opening an
empty frame and a read sending byte 0 of the response. -/
def Obligations.AddressNackedOrManagement : Prop :=
  (∀ (a : Addr) (dir : Direction) (s : State), s.port = .upAddress → s.context = none →
     (s.power ≠ .running ∨ a.toNat < 0x08 ∨ 0x78 ≤ a.toNat ∨
       (a ≠ s.mga ∧ ∀ i : Slot, ¬(s.active.routes[i].valid = true ∧ s.active.routes[i].vaddr = a))) →
     exec (.addressDecode a dir) s = .next { s with port := .upIgnore, answer := .nack }) ∧
  ∀ s : State, s.port = .upAddress → s.context = none → s.power = .running → reservedAddr s.mga = false →
    exec (.addressDecode s.mga .write) s =
      .next { s with port := .upMgmtWrite, answer := .ack, frame := .collecting, buffer := [] } ∧
    exec (.addressDecode s.mga .read) s =
      .next { s with port := .upMgmtRead, answer := .ack, readPos := 0, sending := some s.response.code.value }

/-- R51, R43, R44: the checks of a routed address, in their order, each with its denial. -/
def Obligations.RoutedAddressDenied : Prop :=
  ∀ (a : Addr) (dir : Direction) (i : Slot) (s : State), s.Decides a → s.Claims i a →
    if (s.engine s.active.routes[i].segment).mode = .disabled ∨ (s.engine s.active.routes[i].segment).mode = .stuck then
      exec (.addressDecode a dir) s = .next (s.denied i dir .segmentUnavailable none)
    else if dir = .write ∧ (s.slotRuntime i).faulted = true then
      exec (.addressDecode a dir) s = .next (s.denied i dir .routeFaulted none)
    else if s.active.routes[i].width = .raw then
      (s.active.routes[i].defaultAccess.allows dir = false →
        exec (.addressDecode a dir) s = .next (s.denied i dir .window none))
    else
      dir = .read →
        match (s.slotRuntime i).pointer with
        | none => exec (.addressDecode a dir) s = .next (s.denied i dir .pointerUnknown none)
        | some p =>
          (accessAt s.active s.active.routes[i] p).reads = false →
            exec (.addressDecode a dir) s = .next (s.denied i dir .window (some p))

/-- R48, R52: a write address that passes the checks is acknowledged at once, with a new context and nothing else. That the context's
Source is TARGET is the model's choice (log entry 27): no rule sets it for a write, and nothing reads it. -/
def Obligations.WriteAddressTaken : Prop :=
  ∀ (a : Addr) (i : Slot) (s : State), s.Decides a → s.Claims i a →
    (s.engine s.active.routes[i].segment).mode.outOfService = false → (s.slotRuntime i).faulted = false →
    (s.active.routes[i].width = .raw → s.active.routes[i].defaultAccess.writes = true) →
    exec (.addressDecode a .write) s =
      .next
        { s with
          answer := .ack, port := if s.active.routes[i].width = .raw then .upWrite else .upIndex,
          context := some
            { slot := i, incarnation := (s.slotRuntime i).incarnation, route := s.active.routes[i], direction := .write,
              indexTaken := 0, indexHigh := 0#8, index := none, follow := false, source := .target, refusing := false,
              denialLogged := false, request := .absent, hold := none, count := 0 } }

/-- R53, R54, R109, R112: a read address on an indexed route at a readable index. A hit of the cache at a cacheable index is
acknowledged at once and moves its line to the front. A miss, or an index that is not cacheable, makes a request and holds at
READ_ADDRESS; an idle engine takes the request at once where no record names the target, and otherwise the request waits: at an
idle engine that may take a QUEUED head, behind the record, and at one in any other state. -/
def Obligations.ReadAddressDecided : Prop :=
  ∀ (a : Addr) (i : Slot) (p : Word16) (s : State), s.Decides a → s.Claims i a →
    (s.engine s.active.routes[i].segment).mode.outOfService = false → s.active.routes[i].width ≠ .raw →
    (s.slotRuntime i).pointer = some p → (accessAt s.active s.active.routes[i] p).reads = true →
    let r := s.active.routes[i]
    let k : Key := ⟨r.segment, r.paddr, p⟩
    let c := { s.newContext i .read with index := some p }
    (∀ v, cacheableAt s.active r p = true → lookup s.cache k = some v →
      exec (.addressDecode a .read) s =
        .next
          { s with
            cache := toFront s.cache k v, port := .upRead, answer := .ack, sending := some v,
            context := some { c with source := .cache, follow := true } }) ∧
    (cacheableAt s.active r p = false ∨ lookup s.cache k = none →
      let q : Request :=
        { kind := .indexedRead, slot := i, incarnation := (s.slotRuntime i).incarnation, segment := r.segment, paddr := r.paddr,
          width := r.width, autoInc := r.autoInc, index := some p, firstByte := 0#8 }
      let waiting : State :=
        { s with
          answer := .released, context := some { c with request := .waiting q, hold := some ⟨.readAddress, s.holdLimit⟩ } }
      ((s.engine r.segment).mode = .idle → s.anyNames r.segment r.paddr = false →
        exec (.addressDecode a .read) s =
          .next
            ({ s with
                answer := .released,
                context := some { c with request := .taken, hold := some ⟨.readAddress, s.holdLimit⟩ } }.setMode r.segment
              (.busy (Transaction.fresh (.request q) p 0#8 false)))) ∧
      ((s.engine r.segment).mode = .idle → s.anyNames r.segment r.paddr = true →
        exec (.addressDecode a .read) s = .next (waiting.headTaken r.segment)) ∧
      ((s.engine r.segment).mode ≠ .idle → exec (.addressDecode a .read) s = .next waiting))

/-- R34, R54, R60, R71, R109, R144: the other requests for a read: a raw read address, and the first miss of a read that began
from the cache. An idle engine takes the request at once where no record names the target, and otherwise the request waits, while
an idle engine may take a QUEUED head; at a STUCK engine the request of a first miss fails at once. -/
def Obligations.TargetReadsRequested : Prop :=
  (∀ (a : Addr) (i : Slot) (s : State), s.Decides a → s.Claims i a →
    (s.engine s.active.routes[i].segment).mode.outOfService = false → s.active.routes[i].width = .raw →
    s.active.routes[i].defaultAccess.reads = true →
    let r := s.active.routes[i]
    let c := s.newContext i .read
    let q : Request :=
      { kind := .rawRead, slot := i, incarnation := (s.slotRuntime i).incarnation, segment := r.segment, paddr := r.paddr,
        width := .raw, autoInc := r.autoInc, index := none, firstByte := 0#8 }
    let waiting : State :=
      { s with
        answer := .released, context := some { c with request := .waiting q, hold := some ⟨.readAddress, s.holdLimit⟩ } }
    ((s.engine r.segment).mode = .idle → s.anyNames r.segment r.paddr = false →
      exec (.addressDecode a .read) s =
        .next
          ({ s with
              answer := .released,
              context := some { c with request := .taken, hold := some ⟨.readAddress, s.holdLimit⟩ } }.setMode r.segment
            (.busy (Transaction.fresh (.request q) 0#16 0#8 false)))) ∧
    ((s.engine r.segment).mode = .idle → s.anyNames r.segment r.paddr = true →
      exec (.addressDecode a .read) s = .next (waiting.headTaken r.segment)) ∧
    ((s.engine r.segment).mode ≠ .idle → exec (.addressDecode a .read) s = .next waiting)) ∧
  ∀ (c : Context) (i : Word16) (s : State), s.Reads c .cache → c.route.width ≠ .raw → c.counted.index = some i →
    byteAllowed s.active c.route .read (some i) = true →
    cacheableAt s.active c.route i = false ∨ lookup s.cache (c.key i) = none →
    let g := c.route.segment
    let u := { s with context := some c.counted }.followed c
    let q : Request :=
      { kind := .indexedRead, slot := c.slot, incarnation := c.incarnation, segment := g, paddr := c.route.paddr,
        width := c.route.width, autoInc := c.route.autoInc, index := some i, firstByte := 0#8 }
    let missed (request : RequestState) : State :=
      { u with
        sending := none,
        context := some
          { c.counted with source := .target, request := request, hold := some ⟨.readByte, s.holdLimit⟩ } }
    ((s.engine g).mode = .idle → s.anyNames g c.route.paddr = false →
      exec (.readByteAnswer true) s =
        .next ((missed .taken).setMode g (.busy (Transaction.fresh (.request q) i 0#8 false)))) ∧
    ((s.engine g).mode = .idle → s.anyNames g c.route.paddr = true →
      exec (.readByteAnswer true) s = .next ((missed (.waiting q)).headTaken g)) ∧
    ((s.engine g).mode ≠ .idle → (s.engine g).mode ≠ .stuck →
      exec (.readByteAnswer true) s = .next (missed (.waiting q))) ∧
    ((s.engine g).mode = .stuck →
      exec (.readByteAnswer true) s =
        .next
          { u with
            sending := some 0xFF#8,
            context := some { c.counted with source := .filler, request := .absent, hold := none } })

/-- R28, R36, R62: index bytes are acknowledged; the last one makes the current index and the Pointer, and sets Follow. -/
def Obligations.IndexBytesAbsorbed : Prop :=
  ∀ (b : Byte) (c : Context) (s : State), s.context = some c → s.port = .upIndex →
    (c.route.width = .two → c.indexTaken = 0 →
      exec (.indexByte b) s = .next { s with answer := .ack, context := some { c with indexTaken := 1, indexHigh := b } }) ∧
    (c.route.width = .two → c.indexTaken = 1 →
      exec (.indexByte b) s =
        .next
          ({ s with
              answer := .ack, port := .upWrite,
              context := some { c with indexTaken := 2, index := some (c.indexHigh ++ b), follow := true } }.setPointer c.slot
            (some (c.indexHigh ++ b)))) ∧
    (c.route.width = .one → c.indexTaken = 0 →
      exec (.indexByte b) s =
        .next
          ({ s with
              answer := .ack, port := .upWrite,
              context := some { c with indexTaken := 1, index := some (b.setWidth 16), follow := true } }.setPointer c.slot
            (some (b.setWidth 16))))

/-- R63, R64, R79, R81, R82, R83, R158: an allowed byte of a posted write opens a record with the route's resolved fields, or is
appended to it, and is acknowledged, counted and told to the cache; it is held at POST_BYTE where no record is free, and answered
by NACK past MaxPost bytes or on a segment out of service. -/
def Obligations.PostedBytesTaken : Prop :=
  ∀ (b : Byte) (c : Context) (s : State), s.Writes c .posted → byteAllowed s.active c.route .write c.index = true →
    let told := if c.route.width = .raw then s.cache else updateLine s.cache (c.key (c.index.getD 0#16)) b
    match s.openRecord with
    | some r =>
      if r.data.length < c.route.maxPost then
        exec (.postedDataByte b) s =
          .next
            ({ s with
                openRecord := some { r with data := r.data ++ [b] }, answer := .ack, cache := told,
                context := some c.counted }.followed c)
      else exec (.postedDataByte b) s = .next { s with answer := .nack, context := some { c with refusing := true } }
    | none =>
      if (s.engine c.route.segment).mode = .disabled ∨ (s.engine c.route.segment).mode = .stuck then
        exec (.postedDataByte b) s = .next { s with answer := .nack, context := some { c with refusing := true } }
      else if s.inUse < 48 then
        exec (.postedDataByte b) s =
          .next
            ({ s with
                openRecord := some (c.recordOf b), answer := .ack, cache := told, context := some c.counted }.followed c)
      else
        exec (.postedDataByte b) s =
          .next
            { s with
              answer := .released, recordRequest := some b,
              context := some { c with hold := some ⟨.postByte, s.holdLimit⟩ } }

/-- R66, R67, R117: the first allowed byte of a pass-through write makes a request, which an idle engine takes at once where no
record names the target; otherwise the request waits, while an idle engine may take a QUEUED head. A later byte is handed to the
engine that waits in WRITE_WAIT. All hold at PASS_BYTE. A segment out of service answers the first byte by NACK. -/
def Obligations.PassBytesHanded : Prop :=
  ∀ (b : Byte) (c : Context) (s : State), s.Writes c .pass → byteAllowed s.active c.route .write c.index = true →
    let g := c.route.segment
    let held (request : RequestState) : State :=
      { s with answer := .released, context := some { c with request := request, hold := some ⟨.passByte, s.holdLimit⟩ } }
    let q : Request :=
      { kind := .write, slot := c.slot, incarnation := c.incarnation, segment := g, paddr := c.route.paddr, width := c.route.width,
        autoInc := c.route.autoInc, index := if c.route.width = .raw then none else c.index, firstByte := b }
    (c.request = .absent → (s.engine g).mode = .idle → s.anyNames g c.route.paddr = false →
      exec (.passDataByte b) s =
        .next ((held .taken).setMode g (.busy (Transaction.fresh (.request q) (q.index.getD 0#16) b true)))) ∧
    (c.request = .absent → (s.engine g).mode = .idle → s.anyNames g c.route.paddr = true →
      exec (.passDataByte b) s = .next ((held (.waiting q)).headTaken g)) ∧
    (c.request = .absent → (s.engine g).mode ≠ .idle → (s.engine g).mode ≠ .disabled → (s.engine g).mode ≠ .stuck →
      exec (.passDataByte b) s = .next (held (.waiting q))) ∧
    (c.request = .absent → (s.engine g).mode = .disabled ∨ (s.engine g).mode = .stuck →
      exec (.passDataByte b) s = .next { s with answer := .nack, context := some { c with refusing := true } }) ∧
    ∀ t, c.request = .taken → s.Carries g t → t.phase = .writeWait →
      exec (.passDataByte b) s =
        .next
          ((held .taken).setMode g
            (.busy
              { t with
                phase := .writing, position := min 255 (t.position + 1),
                writeIndex := advance c.route.width c.route.autoInc t.writeIndex, data := b, unanswered := true,
                out := .byte b }))

/-- R32, R44, R67, R68: while Refusing is set every data byte is answered by NACK with no other effect; a denied byte is answered by
NACK, sets Refusing and is logged where LogDenials is yes and no denial of the sub-transaction was; it adds nothing to any
record and makes no traffic, but that an engine that has taken the request ends its transaction, with P from WRITE_WAIT. That a
posted byte that is denied and also byte MaxPost + 1 is denied and logged is the model's reading (log entry 10). -/
def Obligations.WriteBytesRefused : Prop :=
  ∀ (b : Byte) (c : Context) (m : Mode) (s : State), s.context = some c → s.port = .upWrite → c.route.mode = m →
    c.hold = none →
    let row := match m with | .posted => Instr.postedDataByte b | .pass => Instr.passDataByte b
    let denied : State :=
      { s.byteDenied c with
        answer := .nack,
        context := some
          { c with refusing := true, denialLogged := c.denialLogged || s.active.routes[c.slot].logDenials } }
    (c.refusing = true → exec row s = .next { s with answer := .nack }) ∧
    (c.refusing = false → c.request ≠ .taken → byteAllowed s.active c.route .write c.index = false →
      exec row s = .next denied) ∧
    ∀ t r, c.refusing = false → c.request = .taken → s.CarriesRequest c.route.segment t r →
      byteAllowed s.active c.route .write c.index = false →
      exec row s = .next (denied.setMode c.route.segment (.busy t.ended))

/-- R39, R40, R70, R73: a byte sent from the cache is delivered by either answer and moves the current index and the Pointer; after
an ACK a hit at the next index is sent and a denied index becomes filler, logged as R44 gives; a filler byte makes the Pointer
UNKNOWN and is followed by filler. That a filler byte is counted as any delivered byte is the model's reading (log entry 21). -/
def Obligations.ReadAnswersFromCache : Prop :=
  (∀ (c : Context) (s : State), s.Reads c .cache →
    let i := c.counted.index.getD 0#16
    let u := { s with context := some c.counted }.followed c
    exec (.readByteAnswer false) s = .next { u with sending := none } ∧
    (∀ v, byteAllowed s.active c.route .read c.counted.index = true → cacheableAt s.active c.route i = true →
      lookup s.cache (c.key i) = some v →
      exec (.readByteAnswer true) s = .next { u with cache := toFront s.cache (c.key i) v, sending := some v }) ∧
    (byteAllowed s.active c.route .read c.counted.index = false →
      exec (.readByteAnswer true) s =
        .next
          { u.byteDenied c.counted with
            sending := some 0xFF#8,
            context := some
              { c.counted with
                source := .filler, denialLogged := c.denialLogged || s.active.routes[c.slot].logDenials } })) ∧
  ∀ (c : Context) (s : State), s.Reads c .filler →
    let u := ({ s with context := some { c.counted with follow := false } }.setPointer c.slot none)
    exec (.readByteAnswer false) s = .next { u with sending := none } ∧
    exec (.readByteAnswer true) s = .next { u with sending := some 0xFF#8 }

/-- R44, R72, R73, R119, R120: the master's answer to a byte from the target reaches the engine in ACK_HOLD: an ACK with the next
byte allowed makes it acknowledge and read on, and the port holds at READ_BYTE; a NACK makes it answer by NACK and end with P; an
ACK with the next byte denied makes it do so too, and the denied byte is logged as R44 gives and sent as filler. -/
def Obligations.ReadAnswersFromTarget : Prop :=
  ∀ (c : Context) (t : Transaction) (r : Request) (s : State), s.Reads c .target → s.Carries c.route.segment t →
    t.work = .request r → t.phase = .ackHold →
    let u := { s with context := some c.counted }.followed c
    exec (.readByteAnswer false) s =
      .next
        ({ u with sending := none }.setMode c.route.segment
          (.busy { t with phase := .stopping, out := .ninthBit false .ackHold })) ∧
    (byteAllowed s.active c.route .read c.counted.index = true →
      exec (.readByteAnswer true) s =
        .next
          ({ u with
              sending := none,
              context := some { c.counted with hold := some ⟨.readByte, s.holdLimit⟩ } }.setMode c.route.segment
            (.busy
              { t with
                phase := .reading,
                readIndex := if c.route.width = IndexWidth.raw then t.readIndex
                  else advance c.route.width c.route.autoInc t.readIndex,
                out := .ninthBit true .ackHold }))) ∧
    (byteAllowed s.active c.route .read c.counted.index = false →
      exec (.readByteAnswer true) s =
        .next
          ({ u.byteDenied c.counted with
              sending := some 0xFF#8,
              context := some
                { c.counted with
                  source := .filler,
                  denialLogged := c.denialLogged || s.active.routes[c.slot].logDenials } }.setMode c.route.segment
            (.busy { t with phase := .stopping, out := .ninthBit false .ackHold })))

/-- R183, R184, R192: the first twenty bytes of a management write are stored and acknowledged, the next is answered by NACK and
puts the frame in OVERRUN, as is every byte there; a management read goes on at the next byte of the response, FFh past its end,
until the master answers by NACK. That READ_BYTE_ANSWER is the master's answer there too is the model's reading (log entry 14). -/
def Obligations.ManagementBytes : Prop :=
  (∀ (b : Byte) (s : State), s.port = .upMgmtWrite →
    (s.frame = .collecting → s.buffer.length < 20 →
      exec (.mgmtWriteByte b) s = .next { s with answer := .ack, buffer := s.buffer ++ [b] }) ∧
    (s.frame = .collecting → 20 ≤ s.buffer.length →
      exec (.mgmtWriteByte b) s = .next { s with answer := .nack, frame := .overrun }) ∧
    (s.frame = .overrun → exec (.mgmtWriteByte b) s = .next { s with answer := .nack })) ∧
  ∀ s : State, s.port = .upMgmtRead → s.sending.isSome = true →
    exec (.readByteAnswer false) s = .next { s with sending := none } ∧
    exec (.readByteAnswer true) s =
      .next
        { s with
          readPos := s.readPos + 1,
          sending := some
            ((s.response.code.value :: s.response.tag :: BitVec.ofNat 8 s.response.payload.length ::
              s.response.payload).getD (s.readPos + 1) 0xFF#8) }

/-! ### Management frames -/

/-- R183, R205, R208, R209: the frame of every command decodes to that command and its tag, and has as many operands as its code
is listed with. -/
def Obligations.FrameRoundTrip : Prop :=
  ∀ (tag : Byte) (c : MgmtCommand),
    decodeFrame (encodeFrame tag c) false = .command tag c ∧
    operandLength (commandCode c) = some ((encodeFrame tag c).length - 2)

/-- R46, R185, R187: a collected frame that is a command executes at the P, or at the START that R47 takes as Sr, which ends its
sub-transaction. The row of the table that executes the command makes the same change, and the end adds the port's alone (log
entry 5: the row stands for the execution). -/
def Obligations.StopExecutesFrame : Prop :=
  ∀ (tag : Byte) (c : MgmtCommand) (lines : SegSamples) (levels : LineLevels) (s : State), s.Ready → s.port = .upMgmtWrite →
    s.frame = .collecting → s.buffer = encodeFrame tag c →
    (∀ (b : Byte) (g : Seg), c = .segEnable b → b.toNat = g.val → levelOf lines g = levels) →
    ∃ t, exec (managementRow tag lines levels c) s = .next t ∧
      exec (.upstreamStop lines) s = .next { t with port := .upIdle, answer := .released, sending := none } ∧
      exec (.upstreamRepeatedStart lines) s = .next { t with port := .upAddress, answer := .released, sending := none } ∧
      exec (.upstreamStart lines) s = .next { t with port := .upAddress, answer := .released, sending := none }

/-- R46, R185, R188, R189: a frame that is no command, at its P or Sr: an empty one does nothing; one byte, OVERRUN or a wrong operand count is
BAD_LENGTH; a code that names no command is BAD_COMMAND. The rows of those two completions answer the same. -/
def Obligations.FrameChecks : Prop :=
  (∀ (lines : SegSamples) (s : State), s.Ready → s.port = .upMgmtWrite →
    let ends (t : State) :=
      exec (.upstreamStop lines) s = .next { t with port := .upIdle, answer := .released, sending := none } ∧
      exec (.upstreamRepeatedStart lines) s = .next { t with port := .upAddress, answer := .released, sending := none } ∧
      exec (.upstreamStart lines) s = .next { t with port := .upAddress, answer := .released, sending := none }
    (s.frame = .collecting → s.buffer = [] → ends { s with frame := .noFrame, buffer := [] }) ∧
    (∀ b, s.frame = .collecting → s.buffer = [b] → ends (s.answered 0#8 .badLength [])) ∧
    (∀ code tag operands, s.frame = .overrun → s.buffer = code :: tag :: operands → ends (s.answered tag .badLength [])) ∧
    (∀ code tag operands, s.frame = .collecting → s.buffer = code :: tag :: operands → operandLength code = none →
      ends (s.answered tag .badCommand [])) ∧
    ∀ code tag operands n, s.frame = .collecting → s.buffer = code :: tag :: operands → operandLength code = some n →
      operands.length ≠ n → ends (s.answered tag .badLength [])) ∧
  ∀ s : State, s.Ready →
    (∀ code tag, operandLength code = none → exec (.badCommand code tag) s = .next (s.answered tag .badCommand [])) ∧
    (∀ b, exec (.badLength [b] false) s = .next (s.answered 0#8 .badLength [])) ∧
    (∀ code tag operands, operands.length = 18 →
      exec (.badLength (code :: tag :: operands) true) s = .next (s.answered tag .badLength [])) ∧
    ∀ code tag operands n, operandLength code = some n → operands.length ≠ n → operands.length ≤ 18 →
      exec (.badLength (code :: tag :: operands) false) s = .next (s.answered tag .badLength [])

/-! ### Management commands -/

/-- R179, R180, R197, R198, R211: STATUS answers the state of the part and changes the response alone; SET_LIMITS sets all three
items, or none where a value is out of range or the idle limit is not above the hold limit; ALERT# follows the alert enable while
the log holds an entry. -/
def Obligations.StatusAndLimits : Prop :=
  (∀ (tag : Byte) (s : State), s.Ready →
     exec (.status tag) s =
       .next
         (s.answered tag .ok
           [s.generation.extractLsb' 8 8, s.generation.setWidth 8, if s.dirty then 0x01#8 else 0x00#8, s.mga.setWidth 8,
            (s.engine 0).mode.value, (s.engine 1).mode.value, (s.engine 2).mode.value, (s.engine 3).mode.value,
            BitVec.ofNat 8 s.inUse, BitVec.ofNat 8 s.log.length, BitVec.ofNat 8 s.lost, BitVec.ofNat 8 s.holdLimit,
            BitVec.ofNat 8 s.idleLimit, if s.alertEnable then 0x01#8 else 0x00#8])) ∧
  ∀ (tag hold idle alert : Byte) (s : State), s.Ready →
    let accepted := 2 ≤ hold.toNat ∧ hold.toNat ≤ 100 ∧ 10 ≤ idle.toNat ∧ idle.toNat ≤ 250 ∧ alert.toNat ≤ 1 ∧
      hold.toNat < idle.toNat
    let t := { s with holdLimit := hold.toNat, idleLimit := idle.toNat, alertEnable := alert == 1#8 }.answered tag .ok []
    (accepted → exec (.setLimits tag hold idle alert) s = .next t ∧ (t.alertLow = true ↔ s.log ≠ [] ∧ alert = 1#8)) ∧
    (¬accepted →
      exec (.setLimits tag hold idle alert) s = .next (s.answered tag .badValue []) ∧
      (s.answered tag .badValue []).alertLow = s.alertLow)

/-- R129, R200, R148: WARM_RESTART frees every record, empties the cache, clears the commit marks and every slot's State, Pointer
and Pending, leaves DISABLED and STUCK engines alone and puts each other engine in IDLE or RECOVERY by its lines; the
incarnations, tables, generation, limits and settings stay. The log takes the entries that aborted withdrawn writes owe, with the
delivered flag clear, in ascending segment order, which is the model's choice (log entry 12), and after them one RECORDS_DISCARDED
entry of cause WARM_RESTART for each segment that had records, in ascending order (R97, R100, R124, R174). -/
def Obligations.WarmRestartClears : Prop :=
  ∀ (tag : Byte) (lines : SegSamples) (s : State), s.Ready →
    ∃ t, exec (.warmRestart tag lines) s = .next t ∧
      (∀ g : Seg, t.list g = [] ∧ t.commitMark g = false ∧
        t.engine g =
          if (s.engine g).mode = .disabled ∨ (s.engine g).mode = .stuck then s.engine g
          else
            { s.engine g with
              mode := if (levelOf lines g).scl = true ∧ (levelOf lines g).sda = true then .idle
                else .recovery { step := .opening, pulses := 0, byCommand := false } }) ∧
      (∀ i : Slot, t.slotRuntime i =
        { faulted := false, pointer := none, pending := 0, incarnation := (s.slotRuntime i).incarnation }) ∧
      t.inUse = 0 ∧ t.cache = [] ∧
      (let u := (((s.aborted 0).aborted 1).aborted 2).aborted 3
       let w := (((u.discarded 0 0x03#8).discarded 1 0x03#8).discarded 2 0x03#8).discarded 3 0x03#8
       t.log = w.log ∧ t.nextSeq = w.nextSeq ∧ t.lost = w.lost) ∧
      t = { s.answered tag .ok [] with
              lists := t.lists, openRecord := t.openRecord, engines := t.engines, commitMarks := t.commitMarks,
              runtime := t.runtime, cache := t.cache, log := t.log, nextSeq := t.nextSeq, lost := t.lost }

/-- R16, R207, R208: ROUTE_STAGE with the image of a valid entry in range stages exactly that entry and sets DIRTY; an image of no
such entry is BAD_VALUE, and a slot of 32 or above BAD_SLOT. -/
def Obligations.RouteStageWrites : Prop :=
  ∀ (tag slot : Byte) (m : RouteImage) (s : State), s.Ready →
    let bytes := [0x01#8, m.vaddr, m.segment, m.paddr, m.indexWidth, m.mode, m.flags, m.maxPost, m.addrRetries, m.retryGap,
      m.defaultAccess, m.winFirst, m.winCount]
    (∀ (i : Slot) (e : RouteEntry), slot.toNat = i.val → e.Ok → routePayload e = bytes →
      exec (.routeStage tag slot m) s =
        .next
          ({ s with staged := { s.staged with routes := s.staged.routes.set i e }, dirty := true }.answered tag .ok [])) ∧
    (slot.toNat < 32 → (¬∃ e : RouteEntry, e.Ok ∧ routePayload e = bytes) →
      exec (.routeStage tag slot m) s = .next (s.answered tag .badValue [])) ∧
    (32 ≤ slot.toNat → exec (.routeStage tag slot m) s = .next (s.answered tag .badSlot []))

/-- R17: ROUTE_UNSTAGE writes the cleared content into the staged slot, cleared or not, and sets DIRTY; the active copy stays. -/
def Obligations.RouteUnstageClears : Prop :=
  ∀ (tag slot : Byte) (s : State), s.Ready →
    (∀ i : Slot, slot.toNat = i.val →
      exec (.routeUnstage tag slot) s =
        .next
          ({ s with
              staged := { s.staged with
                routes := s.staged.routes.set i
                  { valid := false, vaddr := 0x08#7, segment := 0, paddr := 0x08#7, width := .raw, autoInc := false,
                    mode := .pass, maxPost := 1, addrRetries := 0, retryGap := 1, defaultAccess := .none, winFirst := 0,
                    winCount := 0, logDenials := false } },
              dirty := true }.answered tag .ok [])) ∧
    (32 ≤ slot.toNat → exec (.routeUnstage tag slot) s = .next (s.answered tag .badSlot []))

/-- R18: WINDOW_STAGE writes the four values into the staged window and sets DIRTY, or refuses with BAD_SLOT or BAD_VALUE. -/
def Obligations.WindowStageWrites : Prop :=
  ∀ (tag window access cacheable : Byte) (low high : Word16) (s : State), s.Ready →
    (∀ (j : Win) (a : Access) (c : Bool), window.toNat = j.val → a.value = access → (if c then 0x01#8 else 0x00#8) = cacheable →
      low.toNat ≤ high.toNat →
      exec (.windowStage tag window low high access cacheable) s =
        .next
          ({ s with staged := { s.staged with windows := s.staged.windows.set j ⟨low, high, a, c⟩ }, dirty := true }.answered
            tag .ok [])) ∧
    (window.toNat < 64 → high.toNat < low.toNat ∨ 4 ≤ access.toNat ∨ 2 ≤ cacheable.toNat →
      exec (.windowStage tag window low high access cacheable) s = .next (s.answered tag .badValue [])) ∧
    (64 ≤ window.toNat → exec (.windowStage tag window low high access cacheable) s = .next (s.answered tag .badSlot []))

/-- R20: the queries answer the entry that the copy named holds, refuse an unknown slot, window or copy, and change the response
alone. -/
def Obligations.TableQueriesAnswer : Prop :=
  ∀ (tag n copy : Byte) (s : State), s.Ready →
    let t := if copy = 1#8 then s.staged else s.active
    (∀ i : Slot, n.toNat = i.val → copy.toNat ≤ 1 →
      exec (.routeQuery tag n copy) s = .next (s.answered tag .ok (routePayload t.routes[i]))) ∧
    (n.toNat < 32 → 2 ≤ copy.toNat → exec (.routeQuery tag n copy) s = .next (s.answered tag .badValue [])) ∧
    (32 ≤ n.toNat → exec (.routeQuery tag n copy) s = .next (s.answered tag .badSlot [])) ∧
    (∀ j : Win, n.toNat = j.val → copy.toNat ≤ 1 →
      exec (.windowQuery tag n copy) s = .next (s.answered tag .ok (windowPayload t.windows[j]))) ∧
    (n.toNat < 64 → 2 ≤ copy.toNat → exec (.windowQuery tag n copy) s = .next (s.answered tag .badValue [])) ∧
    (64 ≤ n.toNat → exec (.windowQuery tag n copy) s = .next (s.answered tag .badSlot []))

/-- R23, R24: a COMMIT at another generation is STALE; at the current one, the first slot that fails a check is INVALID with the
first check it fails. Neither changes anything but the response. -/
def Obligations.CommitRefused : Prop :=
  ∀ (tag : Byte) (expected : Word16) (s : State), s.Ready →
    (expected ≠ s.generation →
      exec (.commit tag expected) s =
        .next (s.answered tag .stale [s.generation.extractLsb' 8 8, s.generation.setWidth 8])) ∧
    ∀ i : Slot, expected = s.generation → ¬s.staged.Passes s.mga i → (∀ j : Slot, j < i → s.staged.Passes s.mga j) →
      let why :=
        if ∃ j : Slot, j < i ∧ s.staged.routes[j].valid = true ∧ s.staged.routes[j].vaddr = s.staged.routes[i].vaddr then 0x01#8
        else if s.staged.routes[i].vaddr = s.mga then 0x02#8
        else 0x03#8
      exec (.commit tag expected) s = .next (s.answered tag .invalid [why, BitVec.ofNat 8 i.val])

/-- R13, R25, R26, R27, R156: a COMMIT of a set that passes makes it active, advances the generation, clears DIRTY, empties the
cache and marks the BUSY engines. A slot of unchanged identity keeps its runtime; any other gets a fresh one, whose incarnation is
the next one after its own that no record of the slot carries. Nothing else changes. -/
def Obligations.CommitActivates : Prop :=
  ∀ (tag : Byte) (s : State), s.Ready → (∀ i : Slot, s.staged.Passes s.mga i) →
    ∃ t, exec (.commit tag s.generation) s = .next t ∧
      (∀ i : Slot,
        let a := s.active.routes[i]
        let b := s.staged.routes[i]
        let old := (s.slotRuntime i).incarnation
        if a.valid = b.valid ∧ a.vaddr = b.vaddr ∧ a.segment = b.segment ∧ a.paddr = b.paddr ∧ a.width = b.width then
          t.slotRuntime i = s.slotRuntime i
        else
          (t.slotRuntime i).faulted = false ∧ (t.slotRuntime i).pointer = none ∧ (t.slotRuntime i).pending = 0 ∧
          (s.PoolOk →
            ∃ n : Nat, n ≤ 48 ∧ (t.slotRuntime i).incarnation = old + 1#8 + BitVec.ofNat 8 n ∧
              s.records.any (·.belongs i (t.slotRuntime i).incarnation) = false ∧
              ∀ k : Nat, k < n → s.records.any (·.belongs i (old + 1#8 + BitVec.ofNat 8 k)) = true)) ∧
      (∀ g : Seg, t.commitMark g = (s.commitMark g || (s.engine g).mode.isBusy)) ∧
      t = { s.answered tag .ok [(s.generation + 1#16).extractLsb' 8 8, (s.generation + 1#16).setWidth 8] with
              active := s.staged, generation := s.generation + 1#16, dirty := false, cache := [], runtime := t.runtime,
              commitMarks := t.commitMarks }

/-- R19, R21, R22: ABANDON, ROUTE_STATE and ROUTE_RESUME. -/
def Obligations.AbandonStateResume : Prop :=
  ∀ (tag slot : Byte) (s : State), s.Ready →
    exec (.abandon tag) s = .next ({ s with staged := s.active, dirty := false }.answered tag .ok []) ∧
    (∀ i : Slot, slot.toNat = i.val →
      let r := s.slotRuntime i
      let p := r.pointer.getD 0#16
      exec (.routeState tag slot) s =
        .next
          (s.answered tag .ok
            [BitVec.ofNat 8 ((if s.active.routes[i].valid then 1 else 0) + (if r.faulted then 2 else 0) +
               (if r.pointer = none then 0 else 4)),
             p.extractLsb' 8 8, p.setWidth 8, BitVec.ofNat 8 r.pending, r.incarnation]) ∧
      exec (.routeResume tag slot) s = .next ((s.setRuntime i { r with faulted := false }).answered tag .ok [])) ∧
    (32 ≤ slot.toNat →
      exec (.routeState tag slot) s = .next (s.answered tag .badSlot []) ∧
      exec (.routeResume tag slot) s = .next (s.answered tag .badSlot []))

/-- R108, R127: SEG_CONFIG refuses with BAD_SLOT, BAD_VALUE and BUSY in that order, and on a DISABLED engine sets both settings;
SEG_DISABLE without FORCE, or where FORCE makes no difference, disables an engine in IDLE without records or in STUCK, and is BUSY
elsewhere. -/
def Obligations.SegConfigAndDisable : Prop :=
  (∀ (tag segment speed timeout : Byte) (s : State), s.Ready →
     (4 ≤ segment.toNat → exec (.segConfig tag segment speed timeout) s = .next (s.answered tag .badSlot [])) ∧
     ∀ g : Seg, segment.toNat = g.val →
       (3 ≤ speed.toNat ∨ timeout.toNat = 0 ∨ 100 < timeout.toNat →
         exec (.segConfig tag segment speed timeout) s = .next (s.answered tag .badValue [])) ∧
       (speed.toNat < 3 → 1 ≤ timeout.toNat → timeout.toNat ≤ 100 → (s.engine g).mode ≠ .disabled →
         exec (.segConfig tag segment speed timeout) s = .next (s.answered tag .busy [])) ∧
       (speed.toNat < 3 → 1 ≤ timeout.toNat → timeout.toNat ≤ 100 → (s.engine g).mode = .disabled →
         exec (.segConfig tag segment speed timeout) s =
           .next
             ((s.setEngine g
               { mode := .disabled,
                 speed := if speed = 0#8 then .khz100 else if speed = 1#8 then .khz400 else .mhz1,
                 timeout := timeout.toNat }).answered tag .ok []))) ∧
  ∀ (tag segment force : Byte) (s : State), s.Ready →
    (4 ≤ segment.toNat → exec (.segDisable tag segment force) s = .next (s.answered tag .badSlot [])) ∧
    ∀ g : Seg, segment.toNat = g.val →
      (2 ≤ force.toNat → exec (.segDisable tag segment force) s = .next (s.answered tag .badValue [])) ∧
      (force.toNat ≤ 1 → (s.engine g).mode = .disabled →
        exec (.segDisable tag segment force) s = .next (s.answered tag .ok [])) ∧
      (force.toNat ≤ 1 →
        (s.engine g).mode = .stuck ∨ ((s.engine g).mode = .idle ∧ ∀ r ∈ s.records, r.segment ≠ g) →
        exec (.segDisable tag segment force) s = .next ((s.setMode g .disabled).answered tag .ok [])) ∧
      (force = 0#8 → (s.engine g).mode ≠ .disabled → (s.engine g).mode ≠ .stuck →
        ((s.engine g).mode = .idle → ∃ r ∈ s.records, r.segment = g) →
        exec (.segDisable tag segment force) s = .next (s.answered tag .busy []))

/-- R126, R146, R148: SEG_ENABLE takes a DISABLED engine to IDLE, or to RECOVERY where a line is low, leaves any other engine and
answers its state; SEG_RECOVER starts a procedure in IDLE or STUCK, answers PENDING, and is BUSY elsewhere. -/
def Obligations.SegEnableAndRecover : Prop :=
  ∀ (tag segment : Byte) (levels : LineLevels) (s : State), s.Ready →
    (4 ≤ segment.toNat →
      exec (.segEnable tag segment levels) s = .next (s.answered tag .badSlot []) ∧
      exec (.segRecover tag segment) s = .next (s.answered tag .badSlot [])) ∧
    ∀ g : Seg, segment.toNat = g.val →
      ((s.engine g).mode = .disabled →
        exec (.segEnable tag segment levels) s =
          .next
            (if levels.scl = true ∧ levels.sda = true then (s.setMode g .idle).answered tag .ok [0x01#8]
            else
              (s.setMode g (.recovery { step := .opening, pulses := 0, byCommand := false })).answered tag .ok [0x03#8])) ∧
      ((s.engine g).mode ≠ .disabled →
        exec (.segEnable tag segment levels) s = .next (s.answered tag .ok [(s.engine g).mode.value])) ∧
      ((s.engine g).mode = .idle ∨ (s.engine g).mode = .stuck →
        exec (.segRecover tag segment) s =
          .next
            { (s.setMode g (.recovery { step := .opening, pulses := 0, byCommand := true })).answered tag .pending [segment] with
              response := ⟨.pending, tag, [segment], .recovering g⟩ }) ∧
      ((s.engine g).mode ≠ .idle → (s.engine g).mode ≠ .stuck →
        exec (.segRecover tag segment) s = .next (s.answered tag .busy []))

/-- R97, R98, R124, R128, R156, R159: SEG_DISABLE with FORCE on an engine in RECOVERY, BUSY, or IDLE with records: a write byte not
answered yet loses its line and the entry its withdrawal left owed is appended with the delivered flag clear; then the segment's
records are discarded with one RECORDS_DISCARDED entry of cause FORCE, each slot's Pending falls by its listed records, and the
engine is DISABLED with its settings and without its commit mark. -/
def Obligations.SegDisableForces : Prop :=
  ∀ (tag : Byte) (g : Seg) (s : State), s.Ready →
    (s.engine g).mode ≠ .disabled → (s.engine g).mode ≠ .stuck → ((s.engine g).mode = .idle → ∃ r ∈ s.records, r.segment = g) →
    ∃ t, exec (.segDisable tag (BitVec.ofNat 8 g.val) 1#8) s = .next t ∧
      (∀ i : Slot, t.slotRuntime i =
        { s.slotRuntime i with
          pending := (s.slotRuntime i).pending - (s.list g).countP (·.belongs i (s.slotRuntime i).incarnation) }) ∧
      t =
        { ((s.aborted g).discarded g 0x01#8).setMode g .disabled with
            commitMarks := s.commitMarks.set g false }.answered tag .ok []

/-- R163, R164, R210: CACHE_INVALIDATE invalidates every line, or those of a valid active route's target, and answers their number;
CACHE_PROBE answers the value of the key's line and its place in the LRU order list, or that there is none, with the number of valid
lines, and moves nothing. -/
def Obligations.CacheCommandsAnswer : Prop :=
  (∀ (tag slot : Byte) (s : State), s.Ready →
     exec (.cacheInvalidate tag 0#8 slot) s =
       .next ({ s with cache := [] }.answered tag .ok [BitVec.ofNat 8 s.cache.length]) ∧
     (∀ i : Slot, slot.toNat = i.val → s.active.routes[i].valid = true →
       let r := s.active.routes[i]
       let hit (l : Line) := decide (l.key.segment = r.segment ∧ l.key.paddr = r.paddr)
       exec (.cacheInvalidate tag 1#8 slot) s =
         .next
           ({ s with cache := s.cache.filter fun l => !hit l }.answered tag .ok [BitVec.ofNat 8 (s.cache.countP hit)])) ∧
     ((∀ i : Slot, slot.toNat = i.val → s.active.routes[i].valid = false) →
       exec (.cacheInvalidate tag 1#8 slot) s = .next (s.answered tag .badSlot [])) ∧
     ∀ scope : Byte, 2 ≤ scope.toNat → exec (.cacheInvalidate tag scope slot) s = .next (s.answered tag .badValue [])) ∧
  ∀ (tag segment paddr : Byte) (index : Word16) (s : State), s.Ready →
    (4 ≤ segment.toNat → exec (.cacheProbe tag segment paddr index) s = .next (s.answered tag .badSlot [])) ∧
    ∀ g : Seg, segment.toNat = g.val →
      (paddr.toNat < 0x08 ∨ 0x78 ≤ paddr.toNat →
        exec (.cacheProbe tag segment paddr index) s = .next (s.answered tag .badValue [])) ∧
      ∀ pa : Addr, 0x08 ≤ pa.toNat → pa.toNat < 0x78 → paddr = pa.setWidth 8 →
        (∀ (n : Nat) (v : Byte), s.cache[n]? = some ⟨⟨g, pa, index⟩, v⟩ →
          (∀ m l, m < n → s.cache[m]? = some l → l.key ≠ ⟨g, pa, index⟩) →
          exec (.cacheProbe tag segment paddr index) s =
            .next (s.answered tag .ok [0x01#8, v, BitVec.ofNat 8 n, BitVec.ofNat 8 s.cache.length])) ∧
        ((∀ l ∈ s.cache, l.key ≠ ⟨g, pa, index⟩) →
          exec (.cacheProbe tag segment paddr index) s =
            .next (s.answered tag .ok [0x00#8, 0x00#8, 0x00#8, BitVec.ofNat 8 s.cache.length]))

/-- R176, R177, R179, R212: LOG_READ answers the image of the entry at a position, the count and the lost count; LOG_RELEASE removes the
entry of a sequence number and every older one, and clears the lost count where it empties the list; a position or a sequence
number that is not present is refused with BAD_SLOT or BAD_SEQ. ALERT# is released where the list is emptied, and else stays. -/
def Obligations.LogCommandsAnswer : Prop :=
  ∀ (tag position : Byte) (q : Word16) (s : State), s.Ready →
    let count := BitVec.ofNat 8 s.log.length
    (∀ e, s.log[position.toNat]? = some e →
      exec (.logRead tag position) s = .next (s.answered tag .ok (e.image ++ [count, BitVec.ofNat 8 s.lost]))) ∧
    (s.log.length ≤ position.toNat →
      exec (.logRead tag position) s = .next (s.answered tag .badSlot [count, BitVec.ofNat 8 s.lost])) ∧
    (∀ (older newer : List Entry) (e : Entry), s.log = older ++ e :: newer → e.seqNumber = q →
      (∀ x ∈ older, x.seqNumber ≠ q) →
      let lost := if newer = [] then 0 else s.lost
      let t :=
        { s with log := newer, lost := lost }.answered tag .ok
          [BitVec.ofNat 8 (older.length + 1), BitVec.ofNat 8 newer.length, BitVec.ofNat 8 lost]
      exec (.logRelease tag q) s = .next t ∧ (t.alertLow = true ↔ newer ≠ [] ∧ s.alertLow = true)) ∧
    ((∀ x ∈ s.log, x.seqNumber ≠ q) →
      let first := match s.log with | [] => 0#16 | e :: _ => e.seqNumber
      exec (.logRelease tag q) s =
        .next (s.answered tag .badSeq [first.extractLsb' 8 8, first.setWidth 8, count]))

/-! ### The ends of a sub-transaction -/

/-- R10, R37, R46, R62, R74, R85, R88, R111, R122, R123: the end of a routed sub-transaction at P or Sr. An OPEN record becomes
QUEUED at the tail of its segment's list and its slot's Pending increases; an IDLE engine with an empty list takes it at once.
Without an OPEN record the context is discarded, the Pointer becomes UNKNOWN after one of two index bytes, and a request that an
engine still carries is detached, which makes that engine end its transaction. -/
def Obligations.SubTransactionEnds : Prop :=
  (∀ (lines : SegSamples) (c : Context) (r : Record) (s : State), s.context = some c → s.port = .upWrite → s.power ≠ .inReset →
     c.hold = none → c.request = .absent → s.openRecord = some r →
     let ends (u : State) :=
       exec (.upstreamStop lines) s = .next { u with port := .upIdle, answer := .released, sending := none } ∧
       exec (.upstreamRepeatedStart lines) s = .next { u with port := .upAddress, answer := .released, sending := none } ∧
       exec (.upstreamStart lines) s = .next { u with port := .upAddress, answer := .released, sending := none }
     let rt := s.slotRuntime r.slot
     let u := { s with context := none, openRecord := none }.setRuntime r.slot { rt with pending := rt.pending + 1 }
     ((s.engine r.segment).mode ≠ .idle ∨ (∃ h ∈ (s.list r.segment).head?, h.state ≠ .queued) →
       ends (u.setList r.segment (s.list r.segment ++ [{ r with state := .queued }]))) ∧
     ((s.engine r.segment).mode = .idle → s.list r.segment = [] →
       ends
         ((u.setList r.segment [{ r with state := .inFlight, attempts := r.attempts + 1 }]).setMode r.segment
           (.busy (Transaction.fresh .record 0#16 0#8 false))))) ∧
  ∀ (lines : SegSamples) (c : Context) (s : State), s.context = some c →
    s.port = .upIndex ∨ s.port = .upWrite ∨ s.port = .upRead → s.power ≠ .inReset → c.hold = none → s.openRecord = none →
    let ends (u : State) :=
      exec (.upstreamStop lines) s = .next { u with port := .upIdle, answer := .released, sending := none } ∧
      exec (.upstreamRepeatedStart lines) s = .next { u with port := .upAddress, answer := .released, sending := none }
    let u := { s with context := none }
    (c.request = .absent →
      ends (if s.port = .upIndex ∧ c.indexTaken = 1 then u.setPointer c.slot none else u)) ∧
    ∀ t r, s.port ≠ .upIndex → c.request = .taken → s.CarriesRequest c.route.segment t r →
      ends (u.setMode c.route.segment (.busy { t.ended with work := .detached r, entryOwed := false }))

/-- R56, R58, R59, R61, R123: the expiry of a hold. The port answers at the hold point, and the request is withdrawn: a WAITING one
makes no traffic, a TAKEN one is detached. The entry with the reason in force is appended now, or is owed by the engine at
PASS_BYTE with the request TAKEN. That the entry at READ_ADDRESS carries the context's index is the model's reading where a failure
has made the Pointer UNKNOWN during the hold (log entry 15), and that a request withdrawn in ADDRESSING before its S leaves the
engine there is too (log entry 9). -/
def Obligations.HoldExpires : Prop :=
  ∀ (c : Context) (h : Hold) (s : State), s.context = some c → c.hold = some h →
    let g := c.route.segment
    let reason :=
      if h.point = .postByte then 0x03#8
      else if c.request = .taken then 0x04#8
      else if ∃ x ∈ s.records, x.segment = g ∧ x.paddr = c.route.paddr then 0x02#8
      else 0x01#8
    let point := match h.point with | .readAddress => 0x00#8 | .passByte => 0x01#8 | .postByte => 0x02#8 | .readByte => 0x03#8
    let logged := s.append (c.entry .upHoldExpired reason point)
    (c.request ≠ .taken → exec .holdLimitExpires s = .next (logged.holdEnded c h.point)) ∧
    ∀ t r, c.request = .taken → s.CarriesRequest g t r →
      exec .holdLimitExpires s =
        .next
          ((if h.point = .passByte then
              s.setMode g (.busy { t.ended with work := .detached r, entryOwed := true })
            else logged.setMode g (.busy { t.ended with work := .detached r, entryOwed := false })).holdEnded c h.point)

/-- R76, R77, R86, R186: the expiry of the idle limit outside a hold. -/
def Obligations.IdleExpires : Prop :=
  (∀ s : State, s.context = none →
    let e (detailA detailB : Byte) : Entry :=
      { seqNumber := 0#16, kind := .upAbandoned, segment := none, slot := none, paddr := none, index := .absent,
        detailA := detailA, detailB := detailB, pass := false, record := false, superseded := false }
    let u := { s with port := .upIdle, answer := .released, sending := none }
    (s.port = .upIgnore → exec .idleLimitExpires s = .next { s with port := .upIdle, answer := .released }) ∧
    (s.port = .upAddress → exec .idleLimitExpires s = .next (u.append (e 0x01#8 0x00#8))) ∧
    (s.port = .upMgmtRead → exec .idleLimitExpires s = .next (u.append (e 0x03#8 0x00#8))) ∧
    (s.port = .upMgmtWrite →
      exec .idleLimitExpires s =
        .next ({ u with frame := .noFrame, buffer := [] }.append (e 0x02#8 (BitVec.ofNat 8 s.buffer.length))))) ∧
  ∀ (c : Context) (s : State), s.context = some c → c.hold = none →
    s.port = .upIndex ∨ s.port = .upWrite ∨ s.port = .upRead →
    let state := if s.port = .upIndex then 0x04#8 else if s.port = .upWrite then 0x05#8 else 0x06#8
    let e := c.entry .upAbandoned state (BitVec.ofNat 8 c.count)
    let u :=
      { s with port := .upIdle, answer := .released, sending := none, context := none, openRecord := none }.setPointer c.slot none
    (c.request = .absent → exec .idleLimitExpires s = .next (u.append e)) ∧
    ∀ t r, c.request = .taken → s.CarriesRequest c.route.segment t r →
      exec .idleLimitExpires s =
        .next
          ((u.setMode c.route.segment (.busy { t.ended with work := .detached r, entryOwed := false })).append e)

/-! ### The arbiter and the pool -/

/-- R82, R110, R111, R112: what follows an event by itself. A free record goes to the byte held for one, which is accepted into it,
acknowledged, counted and told to the cache, and the hold ends; with no record free, or no byte waiting, nothing changes. An IDLE
engine's arbiter takes the WAITING request to a target that no record names, else the QUEUED head, else nothing; in any other state
it does not act. -/
def Obligations.GrantAndArbiter : Prop :=
  (∀ s : State,
     (s.recordRequest = none → s.grantRecord = s) ∧
     ∀ b c, s.recordRequest = some b → s.context = some c →
       let told := if c.route.width = .raw then s.cache else updateLine s.cache (c.key (c.index.getD 0#16)) b
       s.grantRecord =
         if s.inUse < 48 then
           { s with
             recordRequest := none, openRecord := some (c.recordOf b), answer := .ack, cache := told,
             context := some { c.counted with hold := none } }.followed c
         else s) ∧
  ∀ (g : Seg) (s : State),
    ((s.engine g).mode ≠ .idle → s.arbiter g = s) ∧
    (∀ c r, (s.engine g).mode = .idle → s.context = some c → c.request = .waiting r → r.segment = g →
      (∀ x ∈ s.records, ¬(x.segment = g ∧ x.paddr = r.paddr)) →
      s.arbiter g =
        { s.setMode g
            (.busy (Transaction.fresh (.request r) (r.index.getD 0#16) r.firstByte (decide (r.kind = .write)))) with
          context := some { c with request := .taken } }) ∧
    ((s.engine g).mode = .idle →
      (∀ c r, s.context = some c → c.request = .waiting r → r.segment = g →
        ∃ x ∈ s.records, x.segment = g ∧ x.paddr = r.paddr) →
      (∀ h rest, s.list g = h :: rest → h.state = .queued →
        s.arbiter g =
          (s.setList g ({ h with state := .inFlight, attempts := h.attempts + 1 } :: rest)).setMode g
            (.busy (Transaction.fresh .record 0#16 0#8 false))) ∧
      ((∀ h ∈ (s.list g).head?, h.state ≠ .queued) → s.arbiter g = s))

/-! ### The segment engines -/

/-- R114: an engine in ADDRESSING that finds both lines high makes S and sends PA+W, or PA+R for a raw read. -/
def Obligations.StartSendsAddress : Prop :=
  ∀ (g : Seg) (t : Transaction) (s : State), s.Carries g t → t.phase = .addressing → t.out = .released →
    (∀ r rest, t.work = .record → s.list g = r :: rest →
      exec (.downstreamStart g) s = .next (s.setMode g (.busy { t with out := .byte (r.paddr ++ 0#1) }))) ∧
    ∀ r : Request, t.work = .request r ∨ t.work = .detached r →
      exec (.downstreamStart g) s =
        .next (s.setMode g (.busy { t with out := .byte (r.paddr ++ (if r.kind = .rawRead then 1#1 else 0#1)) }))

/-- R88, R115: the target's answers to a record: after an ACK the next byte of index bytes and data is sent and counted in
Position, and after the last the engine goes to STOPPING; a NACK of any byte takes it there, refused. -/
def Obligations.RecordBytesAnswered : Prop :=
  ∀ (g : Seg) (t : Transaction) (r : Record) (rest : List Record) (ack : Bool) (row : Instr) (s : State),
    s.CarriesRecord g t r rest → s.Answers g t ack row → t.phase ≠ .restarting →
    let bytes := r.width.bytesOf (r.index.getD 0#16)
    exec row s =
      .next
        (s.setMode g
          (.busy
            (if ack = false then { t with phase := .stopping, refused := true, out := .stop }
            else
              match (bytes ++ r.data)[t.position]? with
              | some b =>
                { t with
                  phase := if t.position < bytes.length then .indexing else .writing, position := min 255 (t.position + 1),
                  out := .byte b }
              | none => { t with phase := .stopping, refused := false, out := .stop })))

/-- R66, R116, R117, R159: the target's answers to a pass-through write whose byte is held at PASS_BYTE. Before FirstByte an ACK
sends the next byte; the ACK of the data byte takes the engine to WRITE_WAIT, is mirrored upstream, and updates the byte's line,
or removes it under a commit mark. A NACK of any byte takes the engine to STOPPING, is mirrored as a NACK of the data byte, and
removes its line. -/
def Obligations.WriteRequestAnswered : Prop :=
  ∀ (g : Seg) (t : Transaction) (r : Request) (c : Context) (limit : Nat) (row : Instr) (s : State),
    s.CarriesRequest g t r → r.kind = .write → t.phase ≠ .restarting → s.context = some c →
    c.hold = some ⟨.passByte, limit⟩ →
    let bytes := r.width.bytesOf (r.index.getD 0#16)
    let k : Key := ⟨r.segment, r.paddr, t.writeIndex⟩
    (∀ b, t.phase ≠ .writing → s.Answers g t true row → (bytes ++ [r.firstByte])[t.position]? = some b →
      exec row s =
        .next
          (s.setMode g
            (.busy
              { t with
                phase := if t.position < bytes.length then .indexing else .writing, position := min 255 (t.position + 1),
                out := .byte b }))) ∧
    (t.phase = .writing → s.Answers g t true row →
      let told :=
        if r.width = .raw then s.cache
        else if s.commitMark g = true then s.lineDropped r t.writeIndex
        else updateLine s.cache k t.data
      exec row s =
        .next
          ({ s with answer := .ack, cache := told, context := some { c.counted with hold := none } }.followed c |>.setMode g
            (.busy { t with phase := .writeWait, unanswered := false, out := .released }))) ∧
    (s.Answers g t false row →
      exec row s =
        .next
          ({ s with
              answer := .nack, cache := s.lineDropped r t.writeIndex,
              context := some { c with hold := none, refusing := true } }.setMode g
            (.busy { t with phase := .stopping, refused := true, unanswered := false, out := .stop })))

/-- R54, R71, R118: the target's answers to a read request. After PA+W and the index bytes of an indexed read the engine makes Sr
and sends PA+R; the ACK of PA+R takes it to READING, and where the address is held upstream acknowledges it and holds for the
first byte, Follow being set on an indexed route whose Pointer is KNOWN. A NACK takes the engine to STOPPING, refused. -/
def Obligations.ReadRequestAnswered : Prop :=
  ∀ (g : Seg) (t : Transaction) (r : Request) (row : Instr) (s : State), s.CarriesRequest g t r →
    t.phase ≠ .writing →
    let bytes := r.width.bytesOf (r.index.getD 0#16)
    (r.kind = .indexedRead → t.phase ≠ .restarting → s.Answers g t true row →
      exec row s =
        .next
          (s.setMode g
            (.busy
              (match bytes[t.position]? with
              | some b => { t with phase := .indexing, position := min 255 (t.position + 1), out := .byte b }
              | none => { t with phase := .restarting, out := .byte (r.paddr ++ 1#1) })))) ∧
    (r.kind = .indexedRead → t.phase ≠ .restarting → s.Answers g t false row →
      exec row s =
        .next (s.setMode g (.busy { t with phase := .stopping, refused := true, unanswered := false, out := .stop }))) ∧
    (t.phase = .restarting ∨ (r.kind = .rawRead ∧ t.phase = .addressing) →
      let reading := s.setMode g (.busy { t with phase := .reading, out := .released })
      (s.Answers g t false row →
        exec row s = .next (s.setMode g (.busy { t with phase := .stopping, refused := true, out := .stop }))) ∧
      (∀ c limit, s.Answers g t true row → s.context = some c → c.hold = some ⟨.readAddress, limit⟩ →
        exec row s =
          .next
            { reading with
              port := .upRead, answer := .ack,
              context := some
                { c with
                  follow := decide (c.route.width ≠ .raw ∧ (s.slotRuntime c.slot).pointer ≠ none),
                  hold := some ⟨.readByte, s.holdLimit⟩ } }) ∧
      (∀ c limit, s.Answers g t true row → s.context = some c → c.hold = some ⟨.readByte, limit⟩ →
        exec row s = .next reading))

/-- R59, R61, R121, R123, R159: the target's answers to a withdrawn request: after the byte in progress the engine goes to
STOPPING, save that an acknowledged PA+R makes it read one byte. A data byte's late outcome removes its line, and the entry owed
is appended with the delivered flag set where the target acknowledged. -/
def Obligations.WithdrawnRequestAnswered : Prop :=
  ∀ (g : Seg) (t : Transaction) (r : Request) (ack : Bool) (row : Instr) (s : State), s.Carries g t → t.work = .detached r →
    s.Answers g t ack row →
    (t.phase = .indexing ∨ (t.phase = .addressing ∧ r.kind ≠ .rawRead) →
      exec row s = .next (s.setMode g (.busy { t with phase := .stopping, refused := false, out := .stop }))) ∧
    (t.phase = .restarting ∨ (t.phase = .addressing ∧ r.kind = .rawRead) →
      exec row s =
        .next
          (s.setMode g
            (.busy
              (if ack then { t with phase := .reading, out := .released }
              else { t with phase := .stopping, refused := false, out := .stop })))) ∧
    (t.phase = .writing →
      let u :=
        { s with cache := s.lineDropped r t.writeIndex }.setMode g
          (.busy { t with phase := .stopping, refused := !ack, unanswered := false, entryOwed := false, out := .stop })
      exec row s =
        .next
          (if t.entryOwed then
            u.append (r.entry .upHoldExpired (some t.writeIndex) 0x04#8 (if ack then 0x81#8 else 0x01#8) false)
          else u))

/-- R71, R119, R120, R121, R154, R155, R156, R157: a byte clocked in. The byte of an indexed read is offered to the cache: a
suppressed offer removes its line, a line that is there takes the byte and moves to the front, and a cacheable and readable index
gets a line, the last of 128 being evicted. The byte is handed to the port, which sends it and ends its hold at READ_BYTE, or,
withdrawn, is answered by NACK. -/
def Obligations.ByteReceived : Prop :=
  ∀ (g : Seg) (t : Transaction) (r : Request) (b : Byte) (s : State), s.Carries g t → t.phase = .reading →
    let k : Key := ⟨r.segment, r.paddr, t.readIndex⟩
    let route := s.active.routes[r.slot]
    let others := s.cache.filter fun l => decide (l.key ≠ k)
    let told :=
      if r.kind ≠ .indexedRead then s.cache
      else if s.commitMark g = true ∨ (∃ x ∈ s.records, x.segment = r.segment ∧ x.paddr = r.paddr) then others
      else if ∃ l ∈ s.cache, l.key = k then ⟨k, b⟩ :: others
      else if cacheableAt s.active route t.readIndex = true ∧ (accessAt s.active route t.readIndex).reads = true then
        ⟨k, b⟩ :: s.cache.take 127
      else s.cache
    (∀ c limit, t.work = .request r → s.context = some c → c.hold = some ⟨.readByte, limit⟩ →
      exec (.downstreamByteReceived g b) s =
        .next
          ({ s with cache := told, sending := some b, context := some { c with hold := none } }.setMode g
            (.busy { t with phase := .ackHold, out := .released }))) ∧
    (t.work = .detached r →
      exec (.downstreamByteReceived g b) s =
        .next
          ({ s with cache := told }.setMode g (.busy { t with phase := .stopping, out := .ninthBit false .reading })))

/-- R89, R90, R91, R92, R94, R95, R111, R115: the end of an attempt at its P. A delivered record is freed and Pending falls for
the current incarnation. An address refused with attempts left puts the record in RETRY_WAIT, from which the retry gap makes it
QUEUED at the head. An address refused with none left, or another byte refused, is a failure. The engine is then IDLE, a freed
record is granted, and the arbiter acts. -/
def Obligations.AttemptEnds : Prop :=
  (∀ (g : Seg) (t : Transaction) (r : Record) (rest : List Record) (s : State), s.CarriesRecord g t r rest →
     t.phase = .stopping →
     let rt := s.slotRuntime r.slot
     let freed := s.setList g rest
     (t.refused = false →
       let u :=
         if rt.incarnation = r.incarnation then freed.setRuntime r.slot { rt with pending := rt.pending - 1 } else freed
       exec (.downstreamStopMade g) s = .next ((u.idled g).grantRecord.arbiter g)) ∧
     (t.refused = true → t.position = 0 → r.attempts ≤ r.addrRetries →
       exec (.downstreamStopMade g) s =
         .next (((s.setList g ({ r with state := .retryWait } :: rest)).idled g).grantRecord.arbiter g)) ∧
     (t.refused = true → t.position = 0 → r.addrRetries < r.attempts →
       exec (.downstreamStopMade g) s =
         .next
           (((freed.afterFailure r .postAddrNack r.index (BitVec.ofNat 8 r.attempts) false).idled g).grantRecord.arbiter g)) ∧
     (t.refused = true → 1 ≤ t.position →
       let indexBytes := (r.width.bytesOf 0#16).length
       let index :=
         if t.position ≤ indexBytes then r.index
         else r.index.map fun i => Nat.repeat (advance r.width r.autoInc) (t.position - indexBytes - 1) i
       exec (.downstreamStopMade g) s =
         .next
           (((freed.afterFailure r .postDataNack index (BitVec.ofNat 8 t.position) false).idled g).grantRecord.arbiter g))) ∧
  ∀ (g : Seg) (r : Record) (rest : List Record) (s : State), s.list g = r :: rest → r.state = .retryWait →
    exec (.retryGapExpires g) s = .next ((s.setList g ({ r with state := .queued } :: rest)).arbiter g)

/-- R54, R58, R71, R118, R121, R123: the P of a pass-through transaction. A read refused by its target ends the port's hold at its
hold point; otherwise the request alone is over. A write withdrawn before FirstByte was sent is reported as not delivered. The
engine is then IDLE and the arbiter acts. -/
def Obligations.RequestEndsAtStop : Prop :=
  ∀ (g : Seg) (t : Transaction) (s : State), s.Carries g t → t.phase = .stopping →
    (∀ r c, t.work = .request r → s.context = some c →
      (∀ h, t.refused = true → r.kind ≠ .write → c.hold = some h →
        exec (.downstreamStopMade g) s =
          .next (((s.holdEnded { c with request := .absent } h.point).idled g).grantRecord.arbiter g)) ∧
      (t.refused = false ∨ r.kind = .write ∨ c.hold = none →
        exec (.downstreamStopMade g) s =
          .next (({ s with context := some { c with request := .absent } }.idled g).grantRecord.arbiter g))) ∧
    ∀ r, t.work = .detached r →
      (t.unanswered = false → exec (.downstreamStopMade g) s = .next ((s.idled g).grantRecord.arbiter g)) ∧
      (t.unanswered = true →
        let u := { s with cache := s.lineDropped r t.writeIndex }
        let v :=
          if t.entryOwed then u.append (r.entry .upHoldExpired (some t.writeIndex) 0x04#8 0x01#8 false) else u
        exec (.downstreamStopMade g) s = .next ((v.idled g).grantRecord.arbiter g))

/-! ### Segment faults and recovery -/

/-- R131, R132, R133, R134: a segment fault while a record is delivered is a failure of the record, whatever its attempts, with
the Position as DetailA and the RECORD flag; the engine goes to RECOVERY and a freed record is granted. -/
def Obligations.RecordFaults : Prop :=
  ∀ (g : Seg) (t : Transaction) (r : Record) (rest : List Record) (ninth : Bool) (s : State), s.CarriesRecord g t r rest →
    let failed (kind : Kind) :=
      (((s.setList g rest).afterFailure r kind r.index (BitVec.ofNat 8 t.position) true).recovering g).grantRecord
    (t.phase ≠ .writeWait → t.phase ≠ .ackHold → exec (.segTimeout g ninth) s = .next (failed .segTimeout)) ∧
    (t.phase = .stopping ∨
      (t.phase = .addressing ∨ t.phase = .indexing ∨ t.phase = .writing) ∧ (∃ b, t.out = .byte b ∧ b ≠ 0#8) →
      exec (.segConflict g) s = .next (failed .segConflict))

/-- R60, R131, R132, R133, R135, R136, R137, R138, R159: a segment fault of a pass-through transaction outside the ninth bit of a
byte read. One entry is appended with the Position, the phase and the PASS flag. A request fails: the port answers at its hold
point, if it holds. The line of a write byte not answered yet is removed. A withdrawn write's owed entry follows. The engine goes to
RECOVERY. That the index of a fault in STOPPING, where no byte is in progress, is that of the last byte is the model's choice (log
entry 28). -/
def Obligations.RequestFaults : Prop :=
  ∀ (g : Seg) (t : Transaction) (s : State), s.Carries g t →
    let faults (kind : Kind) (u : State) :=
      (kind = .segTimeout → t.phase ≠ .writeWait → t.phase ≠ .ackHold → exec (.segTimeout g false) s = .next (u.recovering g).grantRecord) ∧
      (kind = .segConflict →
        t.phase = .stopping ∨ (t.phase = .restarting ∧ ∃ b, t.out = .byte b) ∨
          (t.phase = .addressing ∨ t.phase = .indexing ∨ t.phase = .writing) ∧ (∃ b, t.out = .byte b ∧ b ≠ 0#8) →
        exec (.segConflict g) s = .next (u.recovering g).grantRecord)
    let entry (kind : Kind) (r : Request) :=
      r.entry kind (some (if r.kind = .write then t.writeIndex else t.readIndex)) (BitVec.ofNat 8 t.position) t.phase.value true
    let dropped (r : Request) := if t.unanswered then s.lineDropped r t.writeIndex else s.cache
    (∀ r c kind, t.work = .request r → s.context = some c →
      (∀ h, c.hold = some h →
        faults kind
          ({ s.append (entry kind r) with cache := dropped r }.holdEnded { c with request := .absent } h.point)) ∧
      (c.hold = none →
        faults kind { s.append (entry kind r) with cache := dropped r, context := some { c with request := .absent } })) ∧
    ∀ r kind, t.work = .detached r →
      let u := { s.append (entry kind r) with cache := dropped r }
      faults kind
        (if t.unanswered = true ∧ t.entryOwed = true then
          u.append (r.entry .upHoldExpired (some t.writeIndex) 0x04#8 0x01#8 false)
        else u)

/-- R140, R141, R147: the recovery procedure. The opening sample and each pulse lead to the stop condition on a high SDA and to a
further pulse on a low one, of which there are at most nine; the stop condition made takes the engine to IDLE, completes a
SEG_RECOVER with OK, and the arbiter acts. -/
def Obligations.RecoveryProceeds : Prop :=
  ∀ (g : Seg) (p : Procedure) (s : State), (s.engine g).mode = .recovery p →
    let next (p : Procedure) := s.setMode g (.recovery p)
    (p.step = .opening →
      exec (.recoveryOpeningSample g true) s = .next (next { p with step := .stop }) ∧
      exec (.recoveryOpeningSample g false) s = .next (next { p with step := .pulse })) ∧
    (p.step = .pulse →
      exec (.recoveryPulse g true) s = .next (next { p with step := .stop, pulses := p.pulses + 1 }) ∧
      (p.pulses + 1 < 9 → exec (.recoveryPulse g false) s = .next (next { p with pulses := p.pulses + 1 }))) ∧
    (p.step = .stop →
      exec (.recoveryStopCondition g true) s = .next (((s.setMode g .idle).completed g p .ok).arbiter g) ∧
      (p.pulses < 9 → exec (.recoveryStopCondition g false) s = .next (next { p with step := .pulse })))

/-- R82, R97, R99, R140, R141, R142, R143, R147: a procedure fails where SCL stays low, or SDA is low after the ninth pulse. The
engine is STUCK; one SEG_STUCK entry names the cause and the pulses, and the route of the upstream work it ends; a SEG_RECOVER is
completed with FAILED; a WAITING request, or a write held for a record, is answered at its hold point; and the segment's records
are discarded with cause STUCK. -/
def Obligations.RecoveryFails : Prop :=
  ∀ (g : Seg) (p : Procedure) (s : State), (s.engine g).mode = .recovery p →
    let fails (pulses : Nat) (u : Byte → State) :=
      (pulses = p.pulses → exec (.recoverySclLow g) s = .next (u 0x01#8)) ∧
      (pulses = p.pulses + 1 → 9 ≤ pulses → p.step = .pulse → exec (.recoveryPulse g false) s = .next (u 0x02#8)) ∧
      (pulses = p.pulses → 9 ≤ pulses → p.step = .stop → exec (.recoveryStopCondition g false) s = .next (u 0x02#8))
    let stuck (slot : Option (Slot × Byte)) (paddr : Option Addr) (pass : Bool) (pulses : Nat) (cause : Byte) :=
      ((s.setMode g .stuck).append
        { seqNumber := 0#16, kind := .segStuck, segment := some g, slot := slot, paddr := paddr, index := .absent,
          detailA := cause, detailB := BitVec.ofNat 8 pulses, pass := pass, record := false, superseded := false }).completed g p
        .failed
    (∀ c h r pulses, s.context = some c → c.route.segment = g → c.hold = some h → c.request = .waiting r →
      fails pulses fun cause =>
        (((stuck (some (c.slot, c.incarnation)) (some c.route.paddr) true pulses cause).holdEnded c h.point).discarded g
          0x02#8).grantRecord) ∧
    (∀ c limit pulses, s.context = some c → c.route.segment = g → c.hold = some ⟨.postByte, limit⟩ → c.request = .absent →
      fails pulses fun cause =>
        (((stuck (some (c.slot, c.incarnation)) (some c.route.paddr) false pulses cause).holdEnded c .postByte).discarded g
          0x02#8).grantRecord) ∧
    ∀ pulses,
      (∀ c, s.context = some c → c.route.segment = g →
        (∀ r, c.request ≠ .waiting r) ∧ ∀ h, c.hold = some h → h.point ≠ .postByte) →
      fails pulses fun cause => ((stuck none none false pulses cause).discarded g 0x02#8).grantRecord

/-! ### What every step keeps -/

/-- R1, R2, R16, R18, R24, R45, R49, R78, R102, R149, R151, R166, R181, R182, R203: throughout a reset every item stands at its
reset value, in the start-up interval the port alone has moved, and the tables hold entries in range, the active ones a validated
set. -/
def Obligations.ResetAndTablesKept : Prop :=
  ∀ s t : State, s.ResetOk → step s = .next t →
    t.ResetOk ∧ (s.TablesOk → t.TablesOk)

/-- R166, R173, R175, R177, R179: the log has at most 16 entries with consecutive sequence numbers, and a lost count above 0 only
beside entries. A step takes entries from the front alone and adds at the tail alone, and none but LOG_RELEASE, alone or as a frame
that ends, and the two resets take any. ALERT# is low after it exactly while the log holds an entry and alerting is enabled. An
append with room stores its entry under the next sequence number, and without room is counted as lost; it leaves ALERT# low exactly
while alerting is enabled. -/
def Obligations.LogKept : Prop :=
  (∀ s t : State, step s = .next t →
    (s.LogOk → t.LogOk) ∧ (t.alertLow = true ↔ t.log ≠ [] ∧ t.alertEnable = true) ∧
    ∃ (k : Nat) (new : List Entry), t.log = s.log.drop k ++ new ∧
      (k ≠ 0 →
        ∃ c rest, s.pending = c :: rest ∧
          (c = .powerOnReset ∨ c = .resetAsserted ∨ ∃ q, s.Executes c (.logRelease q)))) ∧
  ∀ (e : Entry) (s : State),
    s.append e =
      (if s.log.length < 16 then
        { s with log := s.log ++ [{ e with seqNumber := s.nextSeq }], nextSeq := s.nextSeq + 1#16 }
      else { s with lost := min 255 (s.lost + 1) }) ∧
    (s.append e).alertLow = s.alertEnable

/-- R78, R150, R151, R183, R184, R191, R198: the pool, the cache with its keys all different, the buffers and the limits stay within
their bounds. -/
def Obligations.BoundsKept : Prop :=
  ∀ s t : State, step s = .next t →
    (s.PoolOk → t.PoolOk) ∧ (s.CacheOk → t.CacheOk) ∧ (s.LimitsOk → t.LimitsOk) ∧ (s.FrameOk → t.FrameOk)

/-- R48, R54, R55, R63, R66, R70, R72, R82, R85, R103, R105, R123, R140: the port's context, its hold and its request fit the port's
state and the transaction of the engine that has taken the request, and every transaction fits its Work. That the context of a write
has Source TARGET, a clause of `Context.Fits`, is the model's choice and no rule's (log entry 27). -/
def Obligations.PortAndEnginesKept : Prop :=
  ∀ s t : State, s.Ok → step s = .next t → t.ContextOk ∧ t.RequestOk ∧ t.EnginesOk ∧ t.WorkOk

/-- R10, R13, R80, R87, R93, R97, R103: every record stands in the list of its segment in the state its place calls for, the head is
IN_FLIGHT exactly while its engine delivers it, a segment out of service has none, and each slot's Pending counts its listed records
of the current incarnation. -/
def Obligations.QueueKept : Prop :=
  ∀ s t : State, s.Ok → step s = .next t → t.QueueOk ∧ t.RecordsOk ∧ t.PendingOk

/-- R3, R4, R9, R21, R27, R35, R150, R156: Pointers and indices lie within their widths, a valid line's key is a cacheable index of a
valid active route, and an engine without a commit mark carries requests of active routes alone. -/
def Obligations.CacheKept : Prop :=
  ∀ s t : State, s.Ok → step s = .next t → t.PointerOk ∧ t.MarksOk ∧ t.LinesOk ∧ t.RoutesOk

/-- All the invariants together: a step leads from a state that has them to one that has them. One clause among them, that the context
of a write has Source TARGET, is the model's choice and no rule's (log entry 27). -/
def Obligations.InvariantsKept : Prop := ∀ s t : State, s.Ok → step s = .next t → t.Ok

/-- R87, R102, R156: an event of one segment's bus leaves every other segment's engine, commit mark and list as they are. -/
def Obligations.SegmentsIndependent : Prop :=
  ∀ (c : Instr) (g h : Seg) (s t : State), s.Ok → busSegment c = some g → h ≠ g → exec c s = .next t →
    t.engine h = s.engine h ∧ t.commitMark h = s.commitMark h ∧ t.list h = s.list h

/-- R1, R14, R23, R25: the active tables and the generation change at a reset, which clears both, or together at a COMMIT of the
current generation, as its row or as a frame that ends, which makes the staged set active and advances the generation by one, and at
nothing else. -/
def Obligations.ActiveTablesChangeAtCommit : Prop :=
  ∀ (c : Instr) (s t : State), exec c s = .next t →
    (t.active = s.active ∧ t.generation = s.generation) ∨
    ((c = .powerOnReset ∨ c = .resetAsserted) ∧ t.active = Tables.cleared ∧ t.generation = 0#16) ∨
    (s.Executes c (.commit s.generation) ∧ t.active = s.staged ∧ t.generation = s.generation + 1#16 ∧ t.dirty = false ∧
      t.cache = [] ∧ t.response.code = .ok)
end

