-- ==== Sys2Proof/Laws/State.lean ====
section
/-! SUPPORT. The fields of the state after each of the named updates, one lemma per field and update, and the reads of one
element after a write of one element. -/

namespace Sys2Proof.Machine

variable (s : State)

/-! ### setEngine -/

@[simp] theorem State.setEngine_power (g : Seg) (e : Engine) : (s.setEngine g e).power = s.power := rfl
@[simp] theorem State.setEngine_mga (g : Seg) (e : Engine) : (s.setEngine g e).mga = s.mga := rfl
@[simp] theorem State.setEngine_active (g : Seg) (e : Engine) : (s.setEngine g e).active = s.active := rfl
@[simp] theorem State.setEngine_staged (g : Seg) (e : Engine) : (s.setEngine g e).staged = s.staged := rfl
@[simp] theorem State.setEngine_generation (g : Seg) (e : Engine) : (s.setEngine g e).generation = s.generation := rfl
@[simp] theorem State.setEngine_dirty (g : Seg) (e : Engine) : (s.setEngine g e).dirty = s.dirty := rfl
@[simp] theorem State.setEngine_runtime (g : Seg) (e : Engine) : (s.setEngine g e).runtime = s.runtime := rfl
@[simp] theorem State.setEngine_port (g : Seg) (e : Engine) : (s.setEngine g e).port = s.port := rfl
@[simp] theorem State.setEngine_context (g : Seg) (e : Engine) : (s.setEngine g e).context = s.context := rfl
@[simp] theorem State.setEngine_answer (g : Seg) (e : Engine) : (s.setEngine g e).answer = s.answer := rfl
@[simp] theorem State.setEngine_sending (g : Seg) (e : Engine) : (s.setEngine g e).sending = s.sending := rfl
@[simp] theorem State.setEngine_readPos (g : Seg) (e : Engine) : (s.setEngine g e).readPos = s.readPos := rfl
@[simp] theorem State.setEngine_lists (g : Seg) (e : Engine) : (s.setEngine g e).lists = s.lists := rfl
@[simp] theorem State.setEngine_openRecord (g : Seg) (e : Engine) : (s.setEngine g e).openRecord = s.openRecord := rfl
@[simp] theorem State.setEngine_recordRequest (g : Seg) (e : Engine) : (s.setEngine g e).recordRequest = s.recordRequest := rfl
@[simp] theorem State.setEngine_cache (g : Seg) (e : Engine) : (s.setEngine g e).cache = s.cache := rfl
@[simp] theorem State.setEngine_commitMarks (g : Seg) (e : Engine) : (s.setEngine g e).commitMarks = s.commitMarks := rfl
@[simp] theorem State.setEngine_log (g : Seg) (e : Engine) : (s.setEngine g e).log = s.log := rfl
@[simp] theorem State.setEngine_nextSeq (g : Seg) (e : Engine) : (s.setEngine g e).nextSeq = s.nextSeq := rfl
@[simp] theorem State.setEngine_lost (g : Seg) (e : Engine) : (s.setEngine g e).lost = s.lost := rfl
@[simp] theorem State.setEngine_frame (g : Seg) (e : Engine) : (s.setEngine g e).frame = s.frame := rfl
@[simp] theorem State.setEngine_buffer (g : Seg) (e : Engine) : (s.setEngine g e).buffer = s.buffer := rfl
@[simp] theorem State.setEngine_response (g : Seg) (e : Engine) : (s.setEngine g e).response = s.response := rfl
@[simp] theorem State.setEngine_holdLimit (g : Seg) (e : Engine) : (s.setEngine g e).holdLimit = s.holdLimit := rfl
@[simp] theorem State.setEngine_idleLimit (g : Seg) (e : Engine) : (s.setEngine g e).idleLimit = s.idleLimit := rfl
@[simp] theorem State.setEngine_alertEnable (g : Seg) (e : Engine) : (s.setEngine g e).alertEnable = s.alertEnable := rfl
@[simp] theorem State.setEngine_pending (g : Seg) (e : Engine) : (s.setEngine g e).pending = s.pending := rfl

/-! ### setMode -/

@[simp] theorem State.setMode_power (g : Seg) (m : EngineMode) : (s.setMode g m).power = s.power := rfl
@[simp] theorem State.setMode_mga (g : Seg) (m : EngineMode) : (s.setMode g m).mga = s.mga := rfl
@[simp] theorem State.setMode_active (g : Seg) (m : EngineMode) : (s.setMode g m).active = s.active := rfl
@[simp] theorem State.setMode_staged (g : Seg) (m : EngineMode) : (s.setMode g m).staged = s.staged := rfl
@[simp] theorem State.setMode_generation (g : Seg) (m : EngineMode) : (s.setMode g m).generation = s.generation := rfl
@[simp] theorem State.setMode_dirty (g : Seg) (m : EngineMode) : (s.setMode g m).dirty = s.dirty := rfl
@[simp] theorem State.setMode_runtime (g : Seg) (m : EngineMode) : (s.setMode g m).runtime = s.runtime := rfl
@[simp] theorem State.setMode_port (g : Seg) (m : EngineMode) : (s.setMode g m).port = s.port := rfl
@[simp] theorem State.setMode_context (g : Seg) (m : EngineMode) : (s.setMode g m).context = s.context := rfl
@[simp] theorem State.setMode_answer (g : Seg) (m : EngineMode) : (s.setMode g m).answer = s.answer := rfl
@[simp] theorem State.setMode_sending (g : Seg) (m : EngineMode) : (s.setMode g m).sending = s.sending := rfl
@[simp] theorem State.setMode_readPos (g : Seg) (m : EngineMode) : (s.setMode g m).readPos = s.readPos := rfl
@[simp] theorem State.setMode_lists (g : Seg) (m : EngineMode) : (s.setMode g m).lists = s.lists := rfl
@[simp] theorem State.setMode_openRecord (g : Seg) (m : EngineMode) : (s.setMode g m).openRecord = s.openRecord := rfl
@[simp] theorem State.setMode_recordRequest (g : Seg) (m : EngineMode) : (s.setMode g m).recordRequest = s.recordRequest := rfl
@[simp] theorem State.setMode_cache (g : Seg) (m : EngineMode) : (s.setMode g m).cache = s.cache := rfl
@[simp] theorem State.setMode_commitMarks (g : Seg) (m : EngineMode) : (s.setMode g m).commitMarks = s.commitMarks := rfl
@[simp] theorem State.setMode_log (g : Seg) (m : EngineMode) : (s.setMode g m).log = s.log := rfl
@[simp] theorem State.setMode_nextSeq (g : Seg) (m : EngineMode) : (s.setMode g m).nextSeq = s.nextSeq := rfl
@[simp] theorem State.setMode_lost (g : Seg) (m : EngineMode) : (s.setMode g m).lost = s.lost := rfl
@[simp] theorem State.setMode_frame (g : Seg) (m : EngineMode) : (s.setMode g m).frame = s.frame := rfl
@[simp] theorem State.setMode_buffer (g : Seg) (m : EngineMode) : (s.setMode g m).buffer = s.buffer := rfl
@[simp] theorem State.setMode_response (g : Seg) (m : EngineMode) : (s.setMode g m).response = s.response := rfl
@[simp] theorem State.setMode_holdLimit (g : Seg) (m : EngineMode) : (s.setMode g m).holdLimit = s.holdLimit := rfl
@[simp] theorem State.setMode_idleLimit (g : Seg) (m : EngineMode) : (s.setMode g m).idleLimit = s.idleLimit := rfl
@[simp] theorem State.setMode_alertEnable (g : Seg) (m : EngineMode) : (s.setMode g m).alertEnable = s.alertEnable := rfl
@[simp] theorem State.setMode_pending (g : Seg) (m : EngineMode) : (s.setMode g m).pending = s.pending := rfl

/-! ### setBusy -/

@[simp] theorem State.setBusy_power (g : Seg) (t : Transaction) : (s.setBusy g t).power = s.power := rfl
@[simp] theorem State.setBusy_mga (g : Seg) (t : Transaction) : (s.setBusy g t).mga = s.mga := rfl
@[simp] theorem State.setBusy_active (g : Seg) (t : Transaction) : (s.setBusy g t).active = s.active := rfl
@[simp] theorem State.setBusy_staged (g : Seg) (t : Transaction) : (s.setBusy g t).staged = s.staged := rfl
@[simp] theorem State.setBusy_generation (g : Seg) (t : Transaction) : (s.setBusy g t).generation = s.generation := rfl
@[simp] theorem State.setBusy_dirty (g : Seg) (t : Transaction) : (s.setBusy g t).dirty = s.dirty := rfl
@[simp] theorem State.setBusy_runtime (g : Seg) (t : Transaction) : (s.setBusy g t).runtime = s.runtime := rfl
@[simp] theorem State.setBusy_port (g : Seg) (t : Transaction) : (s.setBusy g t).port = s.port := rfl
@[simp] theorem State.setBusy_context (g : Seg) (t : Transaction) : (s.setBusy g t).context = s.context := rfl
@[simp] theorem State.setBusy_answer (g : Seg) (t : Transaction) : (s.setBusy g t).answer = s.answer := rfl
@[simp] theorem State.setBusy_sending (g : Seg) (t : Transaction) : (s.setBusy g t).sending = s.sending := rfl
@[simp] theorem State.setBusy_readPos (g : Seg) (t : Transaction) : (s.setBusy g t).readPos = s.readPos := rfl
@[simp] theorem State.setBusy_lists (g : Seg) (t : Transaction) : (s.setBusy g t).lists = s.lists := rfl
@[simp] theorem State.setBusy_openRecord (g : Seg) (t : Transaction) : (s.setBusy g t).openRecord = s.openRecord := rfl
@[simp] theorem State.setBusy_recordRequest (g : Seg) (t : Transaction) : (s.setBusy g t).recordRequest = s.recordRequest := rfl
@[simp] theorem State.setBusy_cache (g : Seg) (t : Transaction) : (s.setBusy g t).cache = s.cache := rfl
@[simp] theorem State.setBusy_commitMarks (g : Seg) (t : Transaction) : (s.setBusy g t).commitMarks = s.commitMarks := rfl
@[simp] theorem State.setBusy_log (g : Seg) (t : Transaction) : (s.setBusy g t).log = s.log := rfl
@[simp] theorem State.setBusy_nextSeq (g : Seg) (t : Transaction) : (s.setBusy g t).nextSeq = s.nextSeq := rfl
@[simp] theorem State.setBusy_lost (g : Seg) (t : Transaction) : (s.setBusy g t).lost = s.lost := rfl
@[simp] theorem State.setBusy_frame (g : Seg) (t : Transaction) : (s.setBusy g t).frame = s.frame := rfl
@[simp] theorem State.setBusy_buffer (g : Seg) (t : Transaction) : (s.setBusy g t).buffer = s.buffer := rfl
@[simp] theorem State.setBusy_response (g : Seg) (t : Transaction) : (s.setBusy g t).response = s.response := rfl
@[simp] theorem State.setBusy_holdLimit (g : Seg) (t : Transaction) : (s.setBusy g t).holdLimit = s.holdLimit := rfl
@[simp] theorem State.setBusy_idleLimit (g : Seg) (t : Transaction) : (s.setBusy g t).idleLimit = s.idleLimit := rfl
@[simp] theorem State.setBusy_alertEnable (g : Seg) (t : Transaction) : (s.setBusy g t).alertEnable = s.alertEnable := rfl
@[simp] theorem State.setBusy_pending (g : Seg) (t : Transaction) : (s.setBusy g t).pending = s.pending := rfl

/-! ### setProcedure -/

@[simp] theorem State.setProcedure_power (g : Seg) (p : Procedure) : (s.setProcedure g p).power = s.power := rfl
@[simp] theorem State.setProcedure_mga (g : Seg) (p : Procedure) : (s.setProcedure g p).mga = s.mga := rfl
@[simp] theorem State.setProcedure_active (g : Seg) (p : Procedure) : (s.setProcedure g p).active = s.active := rfl
@[simp] theorem State.setProcedure_staged (g : Seg) (p : Procedure) : (s.setProcedure g p).staged = s.staged := rfl
@[simp] theorem State.setProcedure_generation (g : Seg) (p : Procedure) : (s.setProcedure g p).generation = s.generation := rfl
@[simp] theorem State.setProcedure_dirty (g : Seg) (p : Procedure) : (s.setProcedure g p).dirty = s.dirty := rfl
@[simp] theorem State.setProcedure_runtime (g : Seg) (p : Procedure) : (s.setProcedure g p).runtime = s.runtime := rfl
@[simp] theorem State.setProcedure_port (g : Seg) (p : Procedure) : (s.setProcedure g p).port = s.port := rfl
@[simp] theorem State.setProcedure_context (g : Seg) (p : Procedure) : (s.setProcedure g p).context = s.context := rfl
@[simp] theorem State.setProcedure_answer (g : Seg) (p : Procedure) : (s.setProcedure g p).answer = s.answer := rfl
@[simp] theorem State.setProcedure_sending (g : Seg) (p : Procedure) : (s.setProcedure g p).sending = s.sending := rfl
@[simp] theorem State.setProcedure_readPos (g : Seg) (p : Procedure) : (s.setProcedure g p).readPos = s.readPos := rfl
@[simp] theorem State.setProcedure_lists (g : Seg) (p : Procedure) : (s.setProcedure g p).lists = s.lists := rfl
@[simp] theorem State.setProcedure_openRecord (g : Seg) (p : Procedure) : (s.setProcedure g p).openRecord = s.openRecord := rfl
@[simp] theorem State.setProcedure_recordRequest (g : Seg) (p : Procedure) : (s.setProcedure g p).recordRequest = s.recordRequest := rfl
@[simp] theorem State.setProcedure_cache (g : Seg) (p : Procedure) : (s.setProcedure g p).cache = s.cache := rfl
@[simp] theorem State.setProcedure_commitMarks (g : Seg) (p : Procedure) : (s.setProcedure g p).commitMarks = s.commitMarks := rfl
@[simp] theorem State.setProcedure_log (g : Seg) (p : Procedure) : (s.setProcedure g p).log = s.log := rfl
@[simp] theorem State.setProcedure_nextSeq (g : Seg) (p : Procedure) : (s.setProcedure g p).nextSeq = s.nextSeq := rfl
@[simp] theorem State.setProcedure_lost (g : Seg) (p : Procedure) : (s.setProcedure g p).lost = s.lost := rfl
@[simp] theorem State.setProcedure_frame (g : Seg) (p : Procedure) : (s.setProcedure g p).frame = s.frame := rfl
@[simp] theorem State.setProcedure_buffer (g : Seg) (p : Procedure) : (s.setProcedure g p).buffer = s.buffer := rfl
@[simp] theorem State.setProcedure_response (g : Seg) (p : Procedure) : (s.setProcedure g p).response = s.response := rfl
@[simp] theorem State.setProcedure_holdLimit (g : Seg) (p : Procedure) : (s.setProcedure g p).holdLimit = s.holdLimit := rfl
@[simp] theorem State.setProcedure_idleLimit (g : Seg) (p : Procedure) : (s.setProcedure g p).idleLimit = s.idleLimit := rfl
@[simp] theorem State.setProcedure_alertEnable (g : Seg) (p : Procedure) : (s.setProcedure g p).alertEnable = s.alertEnable := rfl
@[simp] theorem State.setProcedure_pending (g : Seg) (p : Procedure) : (s.setProcedure g p).pending = s.pending := rfl

/-! ### leaveBusy -/

@[simp] theorem State.leaveBusy_power (g : Seg) (m : EngineMode) : (s.leaveBusy g m).power = s.power := rfl
@[simp] theorem State.leaveBusy_mga (g : Seg) (m : EngineMode) : (s.leaveBusy g m).mga = s.mga := rfl
@[simp] theorem State.leaveBusy_active (g : Seg) (m : EngineMode) : (s.leaveBusy g m).active = s.active := rfl
@[simp] theorem State.leaveBusy_staged (g : Seg) (m : EngineMode) : (s.leaveBusy g m).staged = s.staged := rfl
@[simp] theorem State.leaveBusy_generation (g : Seg) (m : EngineMode) : (s.leaveBusy g m).generation = s.generation := rfl
@[simp] theorem State.leaveBusy_dirty (g : Seg) (m : EngineMode) : (s.leaveBusy g m).dirty = s.dirty := rfl
@[simp] theorem State.leaveBusy_runtime (g : Seg) (m : EngineMode) : (s.leaveBusy g m).runtime = s.runtime := rfl
@[simp] theorem State.leaveBusy_port (g : Seg) (m : EngineMode) : (s.leaveBusy g m).port = s.port := rfl
@[simp] theorem State.leaveBusy_context (g : Seg) (m : EngineMode) : (s.leaveBusy g m).context = s.context := rfl
@[simp] theorem State.leaveBusy_answer (g : Seg) (m : EngineMode) : (s.leaveBusy g m).answer = s.answer := rfl
@[simp] theorem State.leaveBusy_sending (g : Seg) (m : EngineMode) : (s.leaveBusy g m).sending = s.sending := rfl
@[simp] theorem State.leaveBusy_readPos (g : Seg) (m : EngineMode) : (s.leaveBusy g m).readPos = s.readPos := rfl
@[simp] theorem State.leaveBusy_lists (g : Seg) (m : EngineMode) : (s.leaveBusy g m).lists = s.lists := rfl
@[simp] theorem State.leaveBusy_openRecord (g : Seg) (m : EngineMode) : (s.leaveBusy g m).openRecord = s.openRecord := rfl
@[simp] theorem State.leaveBusy_recordRequest (g : Seg) (m : EngineMode) : (s.leaveBusy g m).recordRequest = s.recordRequest := rfl
@[simp] theorem State.leaveBusy_cache (g : Seg) (m : EngineMode) : (s.leaveBusy g m).cache = s.cache := rfl
@[simp] theorem State.leaveBusy_log (g : Seg) (m : EngineMode) : (s.leaveBusy g m).log = s.log := rfl
@[simp] theorem State.leaveBusy_nextSeq (g : Seg) (m : EngineMode) : (s.leaveBusy g m).nextSeq = s.nextSeq := rfl
@[simp] theorem State.leaveBusy_lost (g : Seg) (m : EngineMode) : (s.leaveBusy g m).lost = s.lost := rfl
@[simp] theorem State.leaveBusy_frame (g : Seg) (m : EngineMode) : (s.leaveBusy g m).frame = s.frame := rfl
@[simp] theorem State.leaveBusy_buffer (g : Seg) (m : EngineMode) : (s.leaveBusy g m).buffer = s.buffer := rfl
@[simp] theorem State.leaveBusy_response (g : Seg) (m : EngineMode) : (s.leaveBusy g m).response = s.response := rfl
@[simp] theorem State.leaveBusy_holdLimit (g : Seg) (m : EngineMode) : (s.leaveBusy g m).holdLimit = s.holdLimit := rfl
@[simp] theorem State.leaveBusy_idleLimit (g : Seg) (m : EngineMode) : (s.leaveBusy g m).idleLimit = s.idleLimit := rfl
@[simp] theorem State.leaveBusy_alertEnable (g : Seg) (m : EngineMode) : (s.leaveBusy g m).alertEnable = s.alertEnable := rfl
@[simp] theorem State.leaveBusy_pending (g : Seg) (m : EngineMode) : (s.leaveBusy g m).pending = s.pending := rfl

/-! ### setList -/

@[simp] theorem State.setList_power (g : Seg) (l : List Record) : (s.setList g l).power = s.power := rfl
@[simp] theorem State.setList_mga (g : Seg) (l : List Record) : (s.setList g l).mga = s.mga := rfl
@[simp] theorem State.setList_active (g : Seg) (l : List Record) : (s.setList g l).active = s.active := rfl
@[simp] theorem State.setList_staged (g : Seg) (l : List Record) : (s.setList g l).staged = s.staged := rfl
@[simp] theorem State.setList_generation (g : Seg) (l : List Record) : (s.setList g l).generation = s.generation := rfl
@[simp] theorem State.setList_dirty (g : Seg) (l : List Record) : (s.setList g l).dirty = s.dirty := rfl
@[simp] theorem State.setList_runtime (g : Seg) (l : List Record) : (s.setList g l).runtime = s.runtime := rfl
@[simp] theorem State.setList_port (g : Seg) (l : List Record) : (s.setList g l).port = s.port := rfl
@[simp] theorem State.setList_context (g : Seg) (l : List Record) : (s.setList g l).context = s.context := rfl
@[simp] theorem State.setList_answer (g : Seg) (l : List Record) : (s.setList g l).answer = s.answer := rfl
@[simp] theorem State.setList_sending (g : Seg) (l : List Record) : (s.setList g l).sending = s.sending := rfl
@[simp] theorem State.setList_readPos (g : Seg) (l : List Record) : (s.setList g l).readPos = s.readPos := rfl
@[simp] theorem State.setList_openRecord (g : Seg) (l : List Record) : (s.setList g l).openRecord = s.openRecord := rfl
@[simp] theorem State.setList_recordRequest (g : Seg) (l : List Record) : (s.setList g l).recordRequest = s.recordRequest := rfl
@[simp] theorem State.setList_engines (g : Seg) (l : List Record) : (s.setList g l).engines = s.engines := rfl
@[simp] theorem State.setList_cache (g : Seg) (l : List Record) : (s.setList g l).cache = s.cache := rfl
@[simp] theorem State.setList_commitMarks (g : Seg) (l : List Record) : (s.setList g l).commitMarks = s.commitMarks := rfl
@[simp] theorem State.setList_log (g : Seg) (l : List Record) : (s.setList g l).log = s.log := rfl
@[simp] theorem State.setList_nextSeq (g : Seg) (l : List Record) : (s.setList g l).nextSeq = s.nextSeq := rfl
@[simp] theorem State.setList_lost (g : Seg) (l : List Record) : (s.setList g l).lost = s.lost := rfl
@[simp] theorem State.setList_frame (g : Seg) (l : List Record) : (s.setList g l).frame = s.frame := rfl
@[simp] theorem State.setList_buffer (g : Seg) (l : List Record) : (s.setList g l).buffer = s.buffer := rfl
@[simp] theorem State.setList_response (g : Seg) (l : List Record) : (s.setList g l).response = s.response := rfl
@[simp] theorem State.setList_holdLimit (g : Seg) (l : List Record) : (s.setList g l).holdLimit = s.holdLimit := rfl
@[simp] theorem State.setList_idleLimit (g : Seg) (l : List Record) : (s.setList g l).idleLimit = s.idleLimit := rfl
@[simp] theorem State.setList_alertEnable (g : Seg) (l : List Record) : (s.setList g l).alertEnable = s.alertEnable := rfl
@[simp] theorem State.setList_pending (g : Seg) (l : List Record) : (s.setList g l).pending = s.pending := rfl

/-! ### setRuntime -/

@[simp] theorem State.setRuntime_power (i : Slot) (r : Runtime) : (s.setRuntime i r).power = s.power := rfl
@[simp] theorem State.setRuntime_mga (i : Slot) (r : Runtime) : (s.setRuntime i r).mga = s.mga := rfl
@[simp] theorem State.setRuntime_active (i : Slot) (r : Runtime) : (s.setRuntime i r).active = s.active := rfl
@[simp] theorem State.setRuntime_staged (i : Slot) (r : Runtime) : (s.setRuntime i r).staged = s.staged := rfl
@[simp] theorem State.setRuntime_generation (i : Slot) (r : Runtime) : (s.setRuntime i r).generation = s.generation := rfl
@[simp] theorem State.setRuntime_dirty (i : Slot) (r : Runtime) : (s.setRuntime i r).dirty = s.dirty := rfl
@[simp] theorem State.setRuntime_port (i : Slot) (r : Runtime) : (s.setRuntime i r).port = s.port := rfl
@[simp] theorem State.setRuntime_context (i : Slot) (r : Runtime) : (s.setRuntime i r).context = s.context := rfl
@[simp] theorem State.setRuntime_answer (i : Slot) (r : Runtime) : (s.setRuntime i r).answer = s.answer := rfl
@[simp] theorem State.setRuntime_sending (i : Slot) (r : Runtime) : (s.setRuntime i r).sending = s.sending := rfl
@[simp] theorem State.setRuntime_readPos (i : Slot) (r : Runtime) : (s.setRuntime i r).readPos = s.readPos := rfl
@[simp] theorem State.setRuntime_lists (i : Slot) (r : Runtime) : (s.setRuntime i r).lists = s.lists := rfl
@[simp] theorem State.setRuntime_openRecord (i : Slot) (r : Runtime) : (s.setRuntime i r).openRecord = s.openRecord := rfl
@[simp] theorem State.setRuntime_recordRequest (i : Slot) (r : Runtime) : (s.setRuntime i r).recordRequest = s.recordRequest := rfl
@[simp] theorem State.setRuntime_engines (i : Slot) (r : Runtime) : (s.setRuntime i r).engines = s.engines := rfl
@[simp] theorem State.setRuntime_cache (i : Slot) (r : Runtime) : (s.setRuntime i r).cache = s.cache := rfl
@[simp] theorem State.setRuntime_commitMarks (i : Slot) (r : Runtime) : (s.setRuntime i r).commitMarks = s.commitMarks := rfl
@[simp] theorem State.setRuntime_log (i : Slot) (r : Runtime) : (s.setRuntime i r).log = s.log := rfl
@[simp] theorem State.setRuntime_nextSeq (i : Slot) (r : Runtime) : (s.setRuntime i r).nextSeq = s.nextSeq := rfl
@[simp] theorem State.setRuntime_lost (i : Slot) (r : Runtime) : (s.setRuntime i r).lost = s.lost := rfl
@[simp] theorem State.setRuntime_frame (i : Slot) (r : Runtime) : (s.setRuntime i r).frame = s.frame := rfl
@[simp] theorem State.setRuntime_buffer (i : Slot) (r : Runtime) : (s.setRuntime i r).buffer = s.buffer := rfl
@[simp] theorem State.setRuntime_response (i : Slot) (r : Runtime) : (s.setRuntime i r).response = s.response := rfl
@[simp] theorem State.setRuntime_holdLimit (i : Slot) (r : Runtime) : (s.setRuntime i r).holdLimit = s.holdLimit := rfl
@[simp] theorem State.setRuntime_idleLimit (i : Slot) (r : Runtime) : (s.setRuntime i r).idleLimit = s.idleLimit := rfl
@[simp] theorem State.setRuntime_alertEnable (i : Slot) (r : Runtime) : (s.setRuntime i r).alertEnable = s.alertEnable := rfl
@[simp] theorem State.setRuntime_pending (i : Slot) (r : Runtime) : (s.setRuntime i r).pending = s.pending := rfl

/-! ### setPointer -/

@[simp] theorem State.setPointer_power (i : Slot) (p : Option Word16) : (s.setPointer i p).power = s.power := rfl
@[simp] theorem State.setPointer_mga (i : Slot) (p : Option Word16) : (s.setPointer i p).mga = s.mga := rfl
@[simp] theorem State.setPointer_active (i : Slot) (p : Option Word16) : (s.setPointer i p).active = s.active := rfl
@[simp] theorem State.setPointer_staged (i : Slot) (p : Option Word16) : (s.setPointer i p).staged = s.staged := rfl
@[simp] theorem State.setPointer_generation (i : Slot) (p : Option Word16) : (s.setPointer i p).generation = s.generation := rfl
@[simp] theorem State.setPointer_dirty (i : Slot) (p : Option Word16) : (s.setPointer i p).dirty = s.dirty := rfl
@[simp] theorem State.setPointer_port (i : Slot) (p : Option Word16) : (s.setPointer i p).port = s.port := rfl
@[simp] theorem State.setPointer_context (i : Slot) (p : Option Word16) : (s.setPointer i p).context = s.context := rfl
@[simp] theorem State.setPointer_answer (i : Slot) (p : Option Word16) : (s.setPointer i p).answer = s.answer := rfl
@[simp] theorem State.setPointer_sending (i : Slot) (p : Option Word16) : (s.setPointer i p).sending = s.sending := rfl
@[simp] theorem State.setPointer_readPos (i : Slot) (p : Option Word16) : (s.setPointer i p).readPos = s.readPos := rfl
@[simp] theorem State.setPointer_lists (i : Slot) (p : Option Word16) : (s.setPointer i p).lists = s.lists := rfl
@[simp] theorem State.setPointer_openRecord (i : Slot) (p : Option Word16) : (s.setPointer i p).openRecord = s.openRecord := rfl
@[simp] theorem State.setPointer_recordRequest (i : Slot) (p : Option Word16) : (s.setPointer i p).recordRequest = s.recordRequest := rfl
@[simp] theorem State.setPointer_engines (i : Slot) (p : Option Word16) : (s.setPointer i p).engines = s.engines := rfl
@[simp] theorem State.setPointer_cache (i : Slot) (p : Option Word16) : (s.setPointer i p).cache = s.cache := rfl
@[simp] theorem State.setPointer_commitMarks (i : Slot) (p : Option Word16) : (s.setPointer i p).commitMarks = s.commitMarks := rfl
@[simp] theorem State.setPointer_log (i : Slot) (p : Option Word16) : (s.setPointer i p).log = s.log := rfl
@[simp] theorem State.setPointer_nextSeq (i : Slot) (p : Option Word16) : (s.setPointer i p).nextSeq = s.nextSeq := rfl
@[simp] theorem State.setPointer_lost (i : Slot) (p : Option Word16) : (s.setPointer i p).lost = s.lost := rfl
@[simp] theorem State.setPointer_frame (i : Slot) (p : Option Word16) : (s.setPointer i p).frame = s.frame := rfl
@[simp] theorem State.setPointer_buffer (i : Slot) (p : Option Word16) : (s.setPointer i p).buffer = s.buffer := rfl
@[simp] theorem State.setPointer_response (i : Slot) (p : Option Word16) : (s.setPointer i p).response = s.response := rfl
@[simp] theorem State.setPointer_holdLimit (i : Slot) (p : Option Word16) : (s.setPointer i p).holdLimit = s.holdLimit := rfl
@[simp] theorem State.setPointer_idleLimit (i : Slot) (p : Option Word16) : (s.setPointer i p).idleLimit = s.idleLimit := rfl
@[simp] theorem State.setPointer_alertEnable (i : Slot) (p : Option Word16) : (s.setPointer i p).alertEnable = s.alertEnable := rfl
@[simp] theorem State.setPointer_pending (i : Slot) (p : Option Word16) : (s.setPointer i p).pending = s.pending := rfl

/-! ### mapRuntime -/

@[simp] theorem State.mapRuntime_power (f : Slot → Runtime → Runtime) : (s.mapRuntime f).power = s.power := rfl
@[simp] theorem State.mapRuntime_mga (f : Slot → Runtime → Runtime) : (s.mapRuntime f).mga = s.mga := rfl
@[simp] theorem State.mapRuntime_active (f : Slot → Runtime → Runtime) : (s.mapRuntime f).active = s.active := rfl
@[simp] theorem State.mapRuntime_staged (f : Slot → Runtime → Runtime) : (s.mapRuntime f).staged = s.staged := rfl
@[simp] theorem State.mapRuntime_generation (f : Slot → Runtime → Runtime) : (s.mapRuntime f).generation = s.generation := rfl
@[simp] theorem State.mapRuntime_dirty (f : Slot → Runtime → Runtime) : (s.mapRuntime f).dirty = s.dirty := rfl
@[simp] theorem State.mapRuntime_port (f : Slot → Runtime → Runtime) : (s.mapRuntime f).port = s.port := rfl
@[simp] theorem State.mapRuntime_context (f : Slot → Runtime → Runtime) : (s.mapRuntime f).context = s.context := rfl
@[simp] theorem State.mapRuntime_answer (f : Slot → Runtime → Runtime) : (s.mapRuntime f).answer = s.answer := rfl
@[simp] theorem State.mapRuntime_sending (f : Slot → Runtime → Runtime) : (s.mapRuntime f).sending = s.sending := rfl
@[simp] theorem State.mapRuntime_readPos (f : Slot → Runtime → Runtime) : (s.mapRuntime f).readPos = s.readPos := rfl
@[simp] theorem State.mapRuntime_lists (f : Slot → Runtime → Runtime) : (s.mapRuntime f).lists = s.lists := rfl
@[simp] theorem State.mapRuntime_openRecord (f : Slot → Runtime → Runtime) : (s.mapRuntime f).openRecord = s.openRecord := rfl
@[simp] theorem State.mapRuntime_recordRequest (f : Slot → Runtime → Runtime) : (s.mapRuntime f).recordRequest = s.recordRequest := rfl
@[simp] theorem State.mapRuntime_engines (f : Slot → Runtime → Runtime) : (s.mapRuntime f).engines = s.engines := rfl
@[simp] theorem State.mapRuntime_cache (f : Slot → Runtime → Runtime) : (s.mapRuntime f).cache = s.cache := rfl
@[simp] theorem State.mapRuntime_commitMarks (f : Slot → Runtime → Runtime) : (s.mapRuntime f).commitMarks = s.commitMarks := rfl
@[simp] theorem State.mapRuntime_log (f : Slot → Runtime → Runtime) : (s.mapRuntime f).log = s.log := rfl
@[simp] theorem State.mapRuntime_nextSeq (f : Slot → Runtime → Runtime) : (s.mapRuntime f).nextSeq = s.nextSeq := rfl
@[simp] theorem State.mapRuntime_lost (f : Slot → Runtime → Runtime) : (s.mapRuntime f).lost = s.lost := rfl
@[simp] theorem State.mapRuntime_frame (f : Slot → Runtime → Runtime) : (s.mapRuntime f).frame = s.frame := rfl
@[simp] theorem State.mapRuntime_buffer (f : Slot → Runtime → Runtime) : (s.mapRuntime f).buffer = s.buffer := rfl
@[simp] theorem State.mapRuntime_response (f : Slot → Runtime → Runtime) : (s.mapRuntime f).response = s.response := rfl
@[simp] theorem State.mapRuntime_holdLimit (f : Slot → Runtime → Runtime) : (s.mapRuntime f).holdLimit = s.holdLimit := rfl
@[simp] theorem State.mapRuntime_idleLimit (f : Slot → Runtime → Runtime) : (s.mapRuntime f).idleLimit = s.idleLimit := rfl
@[simp] theorem State.mapRuntime_alertEnable (f : Slot → Runtime → Runtime) : (s.mapRuntime f).alertEnable = s.alertEnable := rfl
@[simp] theorem State.mapRuntime_pending (f : Slot → Runtime → Runtime) : (s.mapRuntime f).pending = s.pending := rfl

/-! ### onContext -/

@[simp] theorem State.onContext_power (f : Context → Context) : (s.onContext f).power = s.power := rfl
@[simp] theorem State.onContext_mga (f : Context → Context) : (s.onContext f).mga = s.mga := rfl
@[simp] theorem State.onContext_active (f : Context → Context) : (s.onContext f).active = s.active := rfl
@[simp] theorem State.onContext_staged (f : Context → Context) : (s.onContext f).staged = s.staged := rfl
@[simp] theorem State.onContext_generation (f : Context → Context) : (s.onContext f).generation = s.generation := rfl
@[simp] theorem State.onContext_dirty (f : Context → Context) : (s.onContext f).dirty = s.dirty := rfl
@[simp] theorem State.onContext_runtime (f : Context → Context) : (s.onContext f).runtime = s.runtime := rfl
@[simp] theorem State.onContext_port (f : Context → Context) : (s.onContext f).port = s.port := rfl
@[simp] theorem State.onContext_answer (f : Context → Context) : (s.onContext f).answer = s.answer := rfl
@[simp] theorem State.onContext_sending (f : Context → Context) : (s.onContext f).sending = s.sending := rfl
@[simp] theorem State.onContext_readPos (f : Context → Context) : (s.onContext f).readPos = s.readPos := rfl
@[simp] theorem State.onContext_lists (f : Context → Context) : (s.onContext f).lists = s.lists := rfl
@[simp] theorem State.onContext_openRecord (f : Context → Context) : (s.onContext f).openRecord = s.openRecord := rfl
@[simp] theorem State.onContext_recordRequest (f : Context → Context) : (s.onContext f).recordRequest = s.recordRequest := rfl
@[simp] theorem State.onContext_engines (f : Context → Context) : (s.onContext f).engines = s.engines := rfl
@[simp] theorem State.onContext_cache (f : Context → Context) : (s.onContext f).cache = s.cache := rfl
@[simp] theorem State.onContext_commitMarks (f : Context → Context) : (s.onContext f).commitMarks = s.commitMarks := rfl
@[simp] theorem State.onContext_log (f : Context → Context) : (s.onContext f).log = s.log := rfl
@[simp] theorem State.onContext_nextSeq (f : Context → Context) : (s.onContext f).nextSeq = s.nextSeq := rfl
@[simp] theorem State.onContext_lost (f : Context → Context) : (s.onContext f).lost = s.lost := rfl
@[simp] theorem State.onContext_frame (f : Context → Context) : (s.onContext f).frame = s.frame := rfl
@[simp] theorem State.onContext_buffer (f : Context → Context) : (s.onContext f).buffer = s.buffer := rfl
@[simp] theorem State.onContext_response (f : Context → Context) : (s.onContext f).response = s.response := rfl
@[simp] theorem State.onContext_holdLimit (f : Context → Context) : (s.onContext f).holdLimit = s.holdLimit := rfl
@[simp] theorem State.onContext_idleLimit (f : Context → Context) : (s.onContext f).idleLimit = s.idleLimit := rfl
@[simp] theorem State.onContext_alertEnable (f : Context → Context) : (s.onContext f).alertEnable = s.alertEnable := rfl
@[simp] theorem State.onContext_pending (f : Context → Context) : (s.onContext f).pending = s.pending := rfl

/-! ### Reads of one element after a write -/

theorem State.engine_setEngine (g h : Seg) (e : Engine) :
    (s.setEngine g e).engine h = if g = h then e else s.engine h := by
  simp [State.engine, State.setEngine, Vector.getElem_set, Fin.ext_iff]

@[simp] theorem State.engine_setEngine_self (g : Seg) (e : Engine) : (s.setEngine g e).engine g = e := by
  simp [State.engine_setEngine]

theorem State.engine_setMode (g h : Seg) (m : EngineMode) :
    (s.setMode g m).engine h = if g = h then { s.engine g with mode := m } else s.engine h := s.engine_setEngine g h _

@[simp] theorem State.engine_setMode_self (g : Seg) (m : EngineMode) :
    (s.setMode g m).engine g = { s.engine g with mode := m } := by
  simp [State.engine_setMode]

theorem State.engine_setBusy (g h : Seg) (t : Transaction) :
    (s.setBusy g t).engine h = if g = h then { s.engine g with mode := .busy t } else s.engine h := s.engine_setMode g h _

theorem State.engine_leaveBusy (g h : Seg) (m : EngineMode) :
    (s.leaveBusy g m).engine h = if g = h then { s.engine g with mode := m } else s.engine h := s.engine_setMode g h m

theorem State.commitMark_leaveBusy (g h : Seg) (m : EngineMode) :
    (s.leaveBusy g m).commitMark h = if g = h then false else s.commitMark h := by
  simp [State.commitMark, State.leaveBusy, Vector.getElem_set, Fin.ext_iff]

theorem State.list_setList (g h : Seg) (l : List Record) :
    (s.setList g l).list h = if g = h then l else s.list h := by
  simp [State.list, State.setList, Vector.getElem_set, Fin.ext_iff]

@[simp] theorem State.list_setList_self (g : Seg) (l : List Record) : (s.setList g l).list g = l := by
  simp [State.list_setList]

theorem State.slotRuntime_setRuntime (i j : Slot) (r : Runtime) :
    (s.setRuntime i r).slotRuntime j = if i = j then r else s.slotRuntime j := by
  simp [State.slotRuntime, State.setRuntime, Vector.getElem_set, Fin.ext_iff]

theorem State.slotRuntime_setPointer (i j : Slot) (p : Option Word16) :
    (s.setPointer i p).slotRuntime j = if i = j then { s.slotRuntime i with pointer := p } else s.slotRuntime j :=
  s.slotRuntime_setRuntime i j _

@[simp] theorem State.slotRuntime_mapRuntime (f : Slot → Runtime → Runtime) (i : Slot) :
    (s.mapRuntime f).slotRuntime i = f i (s.slotRuntime i) := by
  simp [State.slotRuntime, State.mapRuntime]

/-- A write of one engine keeps the settings of every engine (R107). -/
theorem State.settings_setMode (g h : Seg) (m : EngineMode) :
    ((s.setMode g m).engine h).speed = (s.engine h).speed ∧ ((s.setMode g m).engine h).timeout = (s.engine h).timeout := by
  rw [State.engine_setMode]; split
  · subst_vars; exact ⟨rfl, rfl⟩
  · exact ⟨rfl, rfl⟩

end Sys2Proof.Machine
end

