-- ==== Sys2Proof/Laws/Frames.lean ====
section
/-! SUPPORT. What each shared operation leaves alone, one lemma for each operation, tagged for simp: the fields of the state that
its equations do not name are as before. -/

namespace Sys2Proof.Machine

variable (s : State)

/-! ### Frames of the shared operations -/

@[simp] theorem State.append_frame (e : Entry) :
    (s.append e).power = s.power ∧ (s.append e).mga = s.mga ∧ (s.append e).active = s.active ∧
    (s.append e).staged = s.staged ∧ (s.append e).generation = s.generation ∧ (s.append e).dirty = s.dirty ∧
    (s.append e).runtime = s.runtime ∧ (s.append e).port = s.port ∧ (s.append e).context = s.context ∧
    (s.append e).answer = s.answer ∧ (s.append e).sending = s.sending ∧ (s.append e).readPos = s.readPos ∧
    (s.append e).lists = s.lists ∧ (s.append e).openRecord = s.openRecord ∧ (s.append e).recordRequest = s.recordRequest ∧
    (s.append e).engines = s.engines ∧ (s.append e).cache = s.cache ∧ (s.append e).commitMarks = s.commitMarks ∧
    (s.append e).frame = s.frame ∧ (s.append e).buffer = s.buffer ∧ (s.append e).response = s.response ∧
    (s.append e).holdLimit = s.holdLimit ∧ (s.append e).idleLimit = s.idleLimit ∧ (s.append e).alertEnable = s.alertEnable ∧
    (s.append e).pending = s.pending := by
  unfold State.append; (repeat' split) <;> simp

@[simp] theorem State.offer_frame (g : Seg) (i : Slot) (k : Key) (b : Byte) :
    (s.offer g i k b).power = s.power ∧ (s.offer g i k b).mga = s.mga ∧ (s.offer g i k b).active = s.active ∧
    (s.offer g i k b).staged = s.staged ∧ (s.offer g i k b).generation = s.generation ∧ (s.offer g i k b).dirty = s.dirty ∧
    (s.offer g i k b).runtime = s.runtime ∧ (s.offer g i k b).port = s.port ∧ (s.offer g i k b).context = s.context ∧
    (s.offer g i k b).answer = s.answer ∧ (s.offer g i k b).sending = s.sending ∧ (s.offer g i k b).readPos = s.readPos ∧
    (s.offer g i k b).lists = s.lists ∧ (s.offer g i k b).openRecord = s.openRecord ∧
    (s.offer g i k b).recordRequest = s.recordRequest ∧ (s.offer g i k b).engines = s.engines ∧
    (s.offer g i k b).commitMarks = s.commitMarks ∧ (s.offer g i k b).log = s.log ∧ (s.offer g i k b).nextSeq = s.nextSeq ∧
    (s.offer g i k b).lost = s.lost ∧ (s.offer g i k b).frame = s.frame ∧ (s.offer g i k b).buffer = s.buffer ∧
    (s.offer g i k b).response = s.response ∧ (s.offer g i k b).holdLimit = s.holdLimit ∧
    (s.offer g i k b).idleLimit = s.idleLimit ∧ (s.offer g i k b).alertEnable = s.alertEnable ∧
    (s.offer g i k b).pending = s.pending := by
  unfold State.offer; (repeat' split) <;> simp

@[simp] theorem State.cacheWritten_frame (g : Seg) (k : Option Key) (b : Byte) :
    (s.cacheWritten g k b).power = s.power ∧ (s.cacheWritten g k b).mga = s.mga ∧ (s.cacheWritten g k b).active = s.active ∧
    (s.cacheWritten g k b).staged = s.staged ∧ (s.cacheWritten g k b).generation = s.generation ∧
    (s.cacheWritten g k b).dirty = s.dirty ∧ (s.cacheWritten g k b).runtime = s.runtime ∧
    (s.cacheWritten g k b).port = s.port ∧ (s.cacheWritten g k b).context = s.context ∧
    (s.cacheWritten g k b).answer = s.answer ∧ (s.cacheWritten g k b).sending = s.sending ∧
    (s.cacheWritten g k b).readPos = s.readPos ∧ (s.cacheWritten g k b).lists = s.lists ∧
    (s.cacheWritten g k b).openRecord = s.openRecord ∧ (s.cacheWritten g k b).recordRequest = s.recordRequest ∧
    (s.cacheWritten g k b).engines = s.engines ∧ (s.cacheWritten g k b).commitMarks = s.commitMarks ∧
    (s.cacheWritten g k b).log = s.log ∧ (s.cacheWritten g k b).nextSeq = s.nextSeq ∧ (s.cacheWritten g k b).lost = s.lost ∧
    (s.cacheWritten g k b).frame = s.frame ∧ (s.cacheWritten g k b).buffer = s.buffer ∧
    (s.cacheWritten g k b).response = s.response ∧ (s.cacheWritten g k b).holdLimit = s.holdLimit ∧
    (s.cacheWritten g k b).idleLimit = s.idleLimit ∧ (s.cacheWritten g k b).alertEnable = s.alertEnable ∧
    (s.cacheWritten g k b).pending = s.pending := by
  unfold State.cacheWritten; (repeat' split) <;> simp

@[simp] theorem State.cacheUnsure_frame (k : Option Key) :
    (s.cacheUnsure k).power = s.power ∧ (s.cacheUnsure k).mga = s.mga ∧ (s.cacheUnsure k).active = s.active ∧
    (s.cacheUnsure k).staged = s.staged ∧ (s.cacheUnsure k).generation = s.generation ∧ (s.cacheUnsure k).dirty = s.dirty ∧
    (s.cacheUnsure k).runtime = s.runtime ∧ (s.cacheUnsure k).port = s.port ∧ (s.cacheUnsure k).context = s.context ∧
    (s.cacheUnsure k).answer = s.answer ∧ (s.cacheUnsure k).sending = s.sending ∧ (s.cacheUnsure k).readPos = s.readPos ∧
    (s.cacheUnsure k).lists = s.lists ∧ (s.cacheUnsure k).openRecord = s.openRecord ∧
    (s.cacheUnsure k).recordRequest = s.recordRequest ∧ (s.cacheUnsure k).engines = s.engines ∧
    (s.cacheUnsure k).commitMarks = s.commitMarks ∧ (s.cacheUnsure k).log = s.log ∧ (s.cacheUnsure k).nextSeq = s.nextSeq ∧
    (s.cacheUnsure k).lost = s.lost ∧ (s.cacheUnsure k).frame = s.frame ∧ (s.cacheUnsure k).buffer = s.buffer ∧
    (s.cacheUnsure k).response = s.response ∧ (s.cacheUnsure k).holdLimit = s.holdLimit ∧
    (s.cacheUnsure k).idleLimit = s.idleLimit ∧ (s.cacheUnsure k).alertEnable = s.alertEnable ∧
    (s.cacheUnsure k).pending = s.pending := by
  unfold State.cacheUnsure; (repeat' split) <;> simp

@[simp] theorem State.countByte_frame (c : Context) :
    (s.countByte c).power = s.power ∧ (s.countByte c).mga = s.mga ∧ (s.countByte c).active = s.active ∧
    (s.countByte c).staged = s.staged ∧ (s.countByte c).generation = s.generation ∧ (s.countByte c).dirty = s.dirty ∧
    (s.countByte c).port = s.port ∧ (s.countByte c).answer = s.answer ∧ (s.countByte c).sending = s.sending ∧
    (s.countByte c).readPos = s.readPos ∧ (s.countByte c).lists = s.lists ∧ (s.countByte c).openRecord = s.openRecord ∧
    (s.countByte c).recordRequest = s.recordRequest ∧ (s.countByte c).engines = s.engines ∧
    (s.countByte c).cache = s.cache ∧ (s.countByte c).commitMarks = s.commitMarks ∧ (s.countByte c).log = s.log ∧
    (s.countByte c).nextSeq = s.nextSeq ∧ (s.countByte c).lost = s.lost ∧ (s.countByte c).frame = s.frame ∧
    (s.countByte c).buffer = s.buffer ∧ (s.countByte c).response = s.response ∧ (s.countByte c).holdLimit = s.holdLimit ∧
    (s.countByte c).idleLimit = s.idleLimit ∧ (s.countByte c).alertEnable = s.alertEnable ∧
    (s.countByte c).pending = s.pending := by
  unfold State.countByte; dsimp only; (repeat' split) <;> simp

@[simp] theorem State.acceptPosted_frame (c : Context) (r : Record) (b : Byte) :
    (s.acceptPosted c r b).power = s.power ∧ (s.acceptPosted c r b).mga = s.mga ∧ (s.acceptPosted c r b).active = s.active ∧
    (s.acceptPosted c r b).staged = s.staged ∧ (s.acceptPosted c r b).generation = s.generation ∧
    (s.acceptPosted c r b).dirty = s.dirty ∧ (s.acceptPosted c r b).port = s.port ∧
    (s.acceptPosted c r b).sending = s.sending ∧ (s.acceptPosted c r b).readPos = s.readPos ∧
    (s.acceptPosted c r b).lists = s.lists ∧ (s.acceptPosted c r b).recordRequest = s.recordRequest ∧
    (s.acceptPosted c r b).engines = s.engines ∧ (s.acceptPosted c r b).commitMarks = s.commitMarks ∧
    (s.acceptPosted c r b).log = s.log ∧ (s.acceptPosted c r b).nextSeq = s.nextSeq ∧ (s.acceptPosted c r b).lost = s.lost ∧
    (s.acceptPosted c r b).frame = s.frame ∧ (s.acceptPosted c r b).buffer = s.buffer ∧
    (s.acceptPosted c r b).response = s.response ∧ (s.acceptPosted c r b).holdLimit = s.holdLimit ∧
    (s.acceptPosted c r b).idleLimit = s.idleLimit ∧ (s.acceptPosted c r b).alertEnable = s.alertEnable ∧
    (s.acceptPosted c r b).pending = s.pending := by
  unfold State.acceptPosted; dsimp only; (repeat' split) <;> simp

@[simp] theorem State.grantRecord_frame :
    s.grantRecord.power = s.power ∧ s.grantRecord.mga = s.mga ∧ s.grantRecord.active = s.active ∧
    s.grantRecord.staged = s.staged ∧ s.grantRecord.generation = s.generation ∧ s.grantRecord.dirty = s.dirty ∧
    s.grantRecord.port = s.port ∧ s.grantRecord.sending = s.sending ∧ s.grantRecord.readPos = s.readPos ∧
    s.grantRecord.lists = s.lists ∧ s.grantRecord.engines = s.engines ∧ s.grantRecord.commitMarks = s.commitMarks ∧
    s.grantRecord.log = s.log ∧ s.grantRecord.nextSeq = s.nextSeq ∧ s.grantRecord.lost = s.lost ∧
    s.grantRecord.frame = s.frame ∧ s.grantRecord.buffer = s.buffer ∧ s.grantRecord.response = s.response ∧
    s.grantRecord.holdLimit = s.holdLimit ∧ s.grantRecord.idleLimit = s.idleLimit ∧
    s.grantRecord.alertEnable = s.alertEnable ∧ s.grantRecord.pending = s.pending := by
  unfold State.grantRecord; (repeat' split) <;> simp

@[simp] theorem State.arbiter_frame (g : Seg) :
    (s.arbiter g).power = s.power ∧ (s.arbiter g).mga = s.mga ∧ (s.arbiter g).active = s.active ∧
    (s.arbiter g).staged = s.staged ∧ (s.arbiter g).generation = s.generation ∧ (s.arbiter g).dirty = s.dirty ∧
    (s.arbiter g).runtime = s.runtime ∧ (s.arbiter g).port = s.port ∧ (s.arbiter g).answer = s.answer ∧
    (s.arbiter g).sending = s.sending ∧ (s.arbiter g).readPos = s.readPos ∧ (s.arbiter g).openRecord = s.openRecord ∧
    (s.arbiter g).recordRequest = s.recordRequest ∧ (s.arbiter g).cache = s.cache ∧
    (s.arbiter g).commitMarks = s.commitMarks ∧ (s.arbiter g).log = s.log ∧ (s.arbiter g).nextSeq = s.nextSeq ∧
    (s.arbiter g).lost = s.lost ∧ (s.arbiter g).frame = s.frame ∧ (s.arbiter g).buffer = s.buffer ∧
    (s.arbiter g).response = s.response ∧ (s.arbiter g).holdLimit = s.holdLimit ∧ (s.arbiter g).idleLimit = s.idleLimit ∧
    (s.arbiter g).alertEnable = s.alertEnable ∧ (s.arbiter g).pending = s.pending := by
  unfold State.arbiter; (repeat' split) <;> simp

@[simp] theorem State.failHold_frame :
    s.failHold.power = s.power ∧ s.failHold.mga = s.mga ∧ s.failHold.active = s.active ∧ s.failHold.staged = s.staged ∧
    s.failHold.generation = s.generation ∧ s.failHold.dirty = s.dirty ∧ s.failHold.runtime = s.runtime ∧
    s.failHold.readPos = s.readPos ∧ s.failHold.lists = s.lists ∧ s.failHold.openRecord = s.openRecord ∧
    s.failHold.engines = s.engines ∧ s.failHold.cache = s.cache ∧ s.failHold.commitMarks = s.commitMarks ∧
    s.failHold.log = s.log ∧ s.failHold.nextSeq = s.nextSeq ∧ s.failHold.lost = s.lost ∧ s.failHold.frame = s.frame ∧
    s.failHold.buffer = s.buffer ∧ s.failHold.response = s.response ∧ s.failHold.holdLimit = s.holdLimit ∧
    s.failHold.idleLimit = s.idleLimit ∧ s.failHold.alertEnable = s.alertEnable ∧ s.failHold.pending = s.pending := by
  unfold State.failHold; (repeat' split) <;> simp

@[simp] theorem State.nackHeldByte_frame :
    s.nackHeldByte.power = s.power ∧ s.nackHeldByte.mga = s.mga ∧ s.nackHeldByte.active = s.active ∧
    s.nackHeldByte.staged = s.staged ∧ s.nackHeldByte.generation = s.generation ∧ s.nackHeldByte.dirty = s.dirty ∧
    s.nackHeldByte.runtime = s.runtime ∧ s.nackHeldByte.port = s.port ∧ s.nackHeldByte.sending = s.sending ∧
    s.nackHeldByte.readPos = s.readPos ∧ s.nackHeldByte.lists = s.lists ∧ s.nackHeldByte.openRecord = s.openRecord ∧
    s.nackHeldByte.recordRequest = s.recordRequest ∧ s.nackHeldByte.engines = s.engines ∧ s.nackHeldByte.cache = s.cache ∧
    s.nackHeldByte.commitMarks = s.commitMarks ∧ s.nackHeldByte.log = s.log ∧ s.nackHeldByte.nextSeq = s.nextSeq ∧
    s.nackHeldByte.lost = s.lost ∧ s.nackHeldByte.frame = s.frame ∧ s.nackHeldByte.buffer = s.buffer ∧
    s.nackHeldByte.response = s.response ∧ s.nackHeldByte.holdLimit = s.holdLimit ∧ s.nackHeldByte.idleLimit = s.idleLimit ∧
    s.nackHeldByte.alertEnable = s.alertEnable ∧ s.nackHeldByte.pending = s.pending := by
  unfold State.nackHeldByte; simp

@[simp] theorem State.discardRoute_frame (i : Slot) (inc : Byte) :
    (s.discardRoute i inc).power = s.power ∧ (s.discardRoute i inc).mga = s.mga ∧ (s.discardRoute i inc).active = s.active ∧
    (s.discardRoute i inc).staged = s.staged ∧ (s.discardRoute i inc).generation = s.generation ∧
    (s.discardRoute i inc).dirty = s.dirty ∧ (s.discardRoute i inc).runtime = s.runtime ∧
    (s.discardRoute i inc).port = s.port ∧ (s.discardRoute i inc).answer = s.answer ∧
    (s.discardRoute i inc).sending = s.sending ∧ (s.discardRoute i inc).readPos = s.readPos ∧
    (s.discardRoute i inc).recordRequest = s.recordRequest ∧ (s.discardRoute i inc).engines = s.engines ∧
    (s.discardRoute i inc).cache = s.cache ∧ (s.discardRoute i inc).commitMarks = s.commitMarks ∧
    (s.discardRoute i inc).log = s.log ∧ (s.discardRoute i inc).nextSeq = s.nextSeq ∧ (s.discardRoute i inc).lost = s.lost ∧
    (s.discardRoute i inc).frame = s.frame ∧ (s.discardRoute i inc).buffer = s.buffer ∧
    (s.discardRoute i inc).response = s.response ∧ (s.discardRoute i inc).holdLimit = s.holdLimit ∧
    (s.discardRoute i inc).idleLimit = s.idleLimit ∧ (s.discardRoute i inc).alertEnable = s.alertEnable ∧
    (s.discardRoute i inc).pending = s.pending := by
  unfold State.discardRoute; dsimp only; (repeat' split) <;> simp

@[simp] theorem State.faultRoute_frame (i : Slot) (inc : Byte) :
    (s.faultRoute i inc).power = s.power ∧ (s.faultRoute i inc).mga = s.mga ∧ (s.faultRoute i inc).active = s.active ∧
    (s.faultRoute i inc).staged = s.staged ∧ (s.faultRoute i inc).generation = s.generation ∧
    (s.faultRoute i inc).dirty = s.dirty ∧ (s.faultRoute i inc).port = s.port ∧ (s.faultRoute i inc).answer = s.answer ∧
    (s.faultRoute i inc).sending = s.sending ∧ (s.faultRoute i inc).readPos = s.readPos ∧
    (s.faultRoute i inc).recordRequest = s.recordRequest ∧ (s.faultRoute i inc).engines = s.engines ∧
    (s.faultRoute i inc).cache = s.cache ∧ (s.faultRoute i inc).commitMarks = s.commitMarks ∧
    (s.faultRoute i inc).log = s.log ∧ (s.faultRoute i inc).nextSeq = s.nextSeq ∧ (s.faultRoute i inc).lost = s.lost ∧
    (s.faultRoute i inc).frame = s.frame ∧ (s.faultRoute i inc).buffer = s.buffer ∧
    (s.faultRoute i inc).response = s.response ∧ (s.faultRoute i inc).holdLimit = s.holdLimit ∧
    (s.faultRoute i inc).idleLimit = s.idleLimit ∧ (s.faultRoute i inc).alertEnable = s.alertEnable ∧
    (s.faultRoute i inc).pending = s.pending := by
  unfold State.faultRoute; dsimp only; simp

@[simp] theorem State.failRecord_frame (r : Record) (k : Kind) (i : Option Word16) (a : Byte) (f : Bool) :
    (s.failRecord r k i a f).power = s.power ∧ (s.failRecord r k i a f).mga = s.mga ∧
    (s.failRecord r k i a f).active = s.active ∧ (s.failRecord r k i a f).staged = s.staged ∧
    (s.failRecord r k i a f).generation = s.generation ∧ (s.failRecord r k i a f).dirty = s.dirty ∧
    (s.failRecord r k i a f).port = s.port ∧ (s.failRecord r k i a f).answer = s.answer ∧
    (s.failRecord r k i a f).sending = s.sending ∧ (s.failRecord r k i a f).readPos = s.readPos ∧
    (s.failRecord r k i a f).recordRequest = s.recordRequest ∧ (s.failRecord r k i a f).engines = s.engines ∧
    (s.failRecord r k i a f).commitMarks = s.commitMarks ∧ (s.failRecord r k i a f).frame = s.frame ∧
    (s.failRecord r k i a f).buffer = s.buffer ∧ (s.failRecord r k i a f).response = s.response ∧
    (s.failRecord r k i a f).holdLimit = s.holdLimit ∧ (s.failRecord r k i a f).idleLimit = s.idleLimit ∧
    (s.failRecord r k i a f).alertEnable = s.alertEnable ∧ (s.failRecord r k i a f).pending = s.pending := by
  unfold State.failRecord; dsimp only; (repeat' split) <;> simp

@[simp] theorem State.bulkDiscard_frame (g : Seg) (c : DiscardCause) :
    (s.bulkDiscard g c).power = s.power ∧ (s.bulkDiscard g c).mga = s.mga ∧ (s.bulkDiscard g c).active = s.active ∧
    (s.bulkDiscard g c).staged = s.staged ∧ (s.bulkDiscard g c).generation = s.generation ∧
    (s.bulkDiscard g c).dirty = s.dirty ∧ (s.bulkDiscard g c).port = s.port ∧ (s.bulkDiscard g c).sending = s.sending ∧
    (s.bulkDiscard g c).readPos = s.readPos ∧ (s.bulkDiscard g c).engines = s.engines ∧
    (s.bulkDiscard g c).commitMarks = s.commitMarks ∧ (s.bulkDiscard g c).frame = s.frame ∧
    (s.bulkDiscard g c).buffer = s.buffer ∧ (s.bulkDiscard g c).response = s.response ∧
    (s.bulkDiscard g c).holdLimit = s.holdLimit ∧ (s.bulkDiscard g c).idleLimit = s.idleLimit ∧
    (s.bulkDiscard g c).alertEnable = s.alertEnable ∧ (s.bulkDiscard g c).pending = s.pending := by
  unfold State.bulkDiscard; dsimp only; (repeat' split) <;> simp

@[simp] theorem State.lateOutcome_frame (t : Transaction) (r : Request) (d : Bool) :
    (s.lateOutcome t r d).power = s.power ∧ (s.lateOutcome t r d).mga = s.mga ∧ (s.lateOutcome t r d).active = s.active ∧
    (s.lateOutcome t r d).staged = s.staged ∧ (s.lateOutcome t r d).generation = s.generation ∧
    (s.lateOutcome t r d).dirty = s.dirty ∧ (s.lateOutcome t r d).runtime = s.runtime ∧
    (s.lateOutcome t r d).port = s.port ∧ (s.lateOutcome t r d).context = s.context ∧
    (s.lateOutcome t r d).answer = s.answer ∧ (s.lateOutcome t r d).sending = s.sending ∧
    (s.lateOutcome t r d).readPos = s.readPos ∧ (s.lateOutcome t r d).lists = s.lists ∧
    (s.lateOutcome t r d).openRecord = s.openRecord ∧ (s.lateOutcome t r d).recordRequest = s.recordRequest ∧
    (s.lateOutcome t r d).engines = s.engines ∧ (s.lateOutcome t r d).commitMarks = s.commitMarks ∧
    (s.lateOutcome t r d).frame = s.frame ∧ (s.lateOutcome t r d).buffer = s.buffer ∧
    (s.lateOutcome t r d).response = s.response ∧ (s.lateOutcome t r d).holdLimit = s.holdLimit ∧
    (s.lateOutcome t r d).idleLimit = s.idleLimit ∧ (s.lateOutcome t r d).alertEnable = s.alertEnable ∧
    (s.lateOutcome t r d).pending = s.pending := by
  unfold State.lateOutcome; dsimp only; (repeat' split) <;> simp

/-! ### Frames of the engines' operations -/

@[simp] theorem State.detachEngine_frame (g : Seg) (owed : Bool) :
    (s.detachEngine g owed).power = s.power ∧ (s.detachEngine g owed).mga = s.mga ∧
    (s.detachEngine g owed).active = s.active ∧ (s.detachEngine g owed).staged = s.staged ∧
    (s.detachEngine g owed).generation = s.generation ∧ (s.detachEngine g owed).dirty = s.dirty ∧
    (s.detachEngine g owed).runtime = s.runtime ∧ (s.detachEngine g owed).port = s.port ∧
    (s.detachEngine g owed).context = s.context ∧ (s.detachEngine g owed).answer = s.answer ∧
    (s.detachEngine g owed).sending = s.sending ∧ (s.detachEngine g owed).readPos = s.readPos ∧
    (s.detachEngine g owed).lists = s.lists ∧ (s.detachEngine g owed).openRecord = s.openRecord ∧
    (s.detachEngine g owed).recordRequest = s.recordRequest ∧ (s.detachEngine g owed).cache = s.cache ∧
    (s.detachEngine g owed).commitMarks = s.commitMarks ∧ (s.detachEngine g owed).log = s.log ∧
    (s.detachEngine g owed).nextSeq = s.nextSeq ∧ (s.detachEngine g owed).lost = s.lost ∧
    (s.detachEngine g owed).frame = s.frame ∧ (s.detachEngine g owed).buffer = s.buffer ∧
    (s.detachEngine g owed).response = s.response ∧ (s.detachEngine g owed).holdLimit = s.holdLimit ∧
    (s.detachEngine g owed).idleLimit = s.idleLimit ∧ (s.detachEngine g owed).alertEnable = s.alertEnable ∧
    (s.detachEngine g owed).pending = s.pending := by
  unfold State.detachEngine; (repeat' split) <;> simp

@[simp] theorem State.endEngine_frame (g : Seg) :
    (s.endEngine g).power = s.power ∧ (s.endEngine g).mga = s.mga ∧ (s.endEngine g).active = s.active ∧
    (s.endEngine g).staged = s.staged ∧ (s.endEngine g).generation = s.generation ∧ (s.endEngine g).dirty = s.dirty ∧
    (s.endEngine g).runtime = s.runtime ∧ (s.endEngine g).port = s.port ∧ (s.endEngine g).context = s.context ∧
    (s.endEngine g).answer = s.answer ∧ (s.endEngine g).sending = s.sending ∧ (s.endEngine g).readPos = s.readPos ∧
    (s.endEngine g).lists = s.lists ∧ (s.endEngine g).openRecord = s.openRecord ∧
    (s.endEngine g).recordRequest = s.recordRequest ∧ (s.endEngine g).cache = s.cache ∧
    (s.endEngine g).commitMarks = s.commitMarks ∧ (s.endEngine g).log = s.log ∧ (s.endEngine g).nextSeq = s.nextSeq ∧
    (s.endEngine g).lost = s.lost ∧ (s.endEngine g).frame = s.frame ∧ (s.endEngine g).buffer = s.buffer ∧
    (s.endEngine g).response = s.response ∧ (s.endEngine g).holdLimit = s.holdLimit ∧
    (s.endEngine g).idleLimit = s.idleLimit ∧ (s.endEngine g).alertEnable = s.alertEnable ∧
    (s.endEngine g).pending = s.pending := by
  unfold State.endEngine; (repeat' split) <;> simp

@[simp] theorem State.reportReadAck_frame :
    s.reportReadAck.power = s.power ∧ s.reportReadAck.mga = s.mga ∧ s.reportReadAck.active = s.active ∧
    s.reportReadAck.staged = s.staged ∧ s.reportReadAck.generation = s.generation ∧ s.reportReadAck.dirty = s.dirty ∧
    s.reportReadAck.runtime = s.runtime ∧ s.reportReadAck.sending = s.sending ∧ s.reportReadAck.readPos = s.readPos ∧
    s.reportReadAck.lists = s.lists ∧ s.reportReadAck.openRecord = s.openRecord ∧
    s.reportReadAck.recordRequest = s.recordRequest ∧ s.reportReadAck.engines = s.engines ∧
    s.reportReadAck.cache = s.cache ∧ s.reportReadAck.commitMarks = s.commitMarks ∧ s.reportReadAck.log = s.log ∧
    s.reportReadAck.nextSeq = s.nextSeq ∧ s.reportReadAck.lost = s.lost ∧ s.reportReadAck.frame = s.frame ∧
    s.reportReadAck.buffer = s.buffer ∧ s.reportReadAck.response = s.response ∧ s.reportReadAck.holdLimit = s.holdLimit ∧
    s.reportReadAck.idleLimit = s.idleLimit ∧ s.reportReadAck.alertEnable = s.alertEnable ∧
    s.reportReadAck.pending = s.pending := by
  unfold State.reportReadAck; (repeat' split) <;> simp

@[simp] theorem State.handByte_frame (b : Byte) :
    (s.handByte b).power = s.power ∧ (s.handByte b).mga = s.mga ∧ (s.handByte b).active = s.active ∧
    (s.handByte b).staged = s.staged ∧ (s.handByte b).generation = s.generation ∧ (s.handByte b).dirty = s.dirty ∧
    (s.handByte b).runtime = s.runtime ∧ (s.handByte b).port = s.port ∧ (s.handByte b).answer = s.answer ∧
    (s.handByte b).readPos = s.readPos ∧ (s.handByte b).lists = s.lists ∧ (s.handByte b).openRecord = s.openRecord ∧
    (s.handByte b).recordRequest = s.recordRequest ∧ (s.handByte b).engines = s.engines ∧ (s.handByte b).cache = s.cache ∧
    (s.handByte b).commitMarks = s.commitMarks ∧ (s.handByte b).log = s.log ∧ (s.handByte b).nextSeq = s.nextSeq ∧
    (s.handByte b).lost = s.lost ∧ (s.handByte b).frame = s.frame ∧ (s.handByte b).buffer = s.buffer ∧
    (s.handByte b).response = s.response ∧ (s.handByte b).holdLimit = s.holdLimit ∧ (s.handByte b).idleLimit = s.idleLimit ∧
    (s.handByte b).alertEnable = s.alertEnable ∧ (s.handByte b).pending = s.pending := by
  unfold State.handByte; (repeat' split) <;> simp

@[simp] theorem State.ackHeldByte_frame :
    s.ackHeldByte.power = s.power ∧ s.ackHeldByte.mga = s.mga ∧ s.ackHeldByte.active = s.active ∧
    s.ackHeldByte.staged = s.staged ∧ s.ackHeldByte.generation = s.generation ∧ s.ackHeldByte.dirty = s.dirty ∧
    s.ackHeldByte.port = s.port ∧ s.ackHeldByte.sending = s.sending ∧ s.ackHeldByte.readPos = s.readPos ∧
    s.ackHeldByte.lists = s.lists ∧ s.ackHeldByte.openRecord = s.openRecord ∧
    s.ackHeldByte.recordRequest = s.recordRequest ∧ s.ackHeldByte.engines = s.engines ∧ s.ackHeldByte.cache = s.cache ∧
    s.ackHeldByte.commitMarks = s.commitMarks ∧ s.ackHeldByte.log = s.log ∧ s.ackHeldByte.nextSeq = s.nextSeq ∧
    s.ackHeldByte.lost = s.lost ∧ s.ackHeldByte.frame = s.frame ∧ s.ackHeldByte.buffer = s.buffer ∧
    s.ackHeldByte.response = s.response ∧ s.ackHeldByte.holdLimit = s.holdLimit ∧ s.ackHeldByte.idleLimit = s.idleLimit ∧
    s.ackHeldByte.alertEnable = s.alertEnable ∧ s.ackHeldByte.pending = s.pending := by
  unfold State.ackHeldByte; (repeat' split) <;> simp

@[simp] theorem State.dropRequest_frame :
    s.dropRequest.power = s.power ∧ s.dropRequest.mga = s.mga ∧ s.dropRequest.active = s.active ∧
    s.dropRequest.staged = s.staged ∧ s.dropRequest.generation = s.generation ∧ s.dropRequest.dirty = s.dirty ∧
    s.dropRequest.runtime = s.runtime ∧ s.dropRequest.port = s.port ∧ s.dropRequest.answer = s.answer ∧
    s.dropRequest.sending = s.sending ∧ s.dropRequest.readPos = s.readPos ∧ s.dropRequest.lists = s.lists ∧
    s.dropRequest.openRecord = s.openRecord ∧ s.dropRequest.recordRequest = s.recordRequest ∧
    s.dropRequest.engines = s.engines ∧ s.dropRequest.cache = s.cache ∧ s.dropRequest.commitMarks = s.commitMarks ∧
    s.dropRequest.log = s.log ∧ s.dropRequest.nextSeq = s.nextSeq ∧ s.dropRequest.lost = s.lost ∧
    s.dropRequest.frame = s.frame ∧ s.dropRequest.buffer = s.buffer ∧ s.dropRequest.response = s.response ∧
    s.dropRequest.holdLimit = s.holdLimit ∧ s.dropRequest.idleLimit = s.idleLimit ∧
    s.dropRequest.alertEnable = s.alertEnable ∧ s.dropRequest.pending = s.pending := by
  unfold State.dropRequest; simp

@[simp] theorem State.refuseOpening_frame (g : Seg) (t : Transaction) (r : Request) :
    (s.refuseOpening g t r).power = s.power ∧ (s.refuseOpening g t r).mga = s.mga ∧
    (s.refuseOpening g t r).active = s.active ∧ (s.refuseOpening g t r).staged = s.staged ∧
    (s.refuseOpening g t r).generation = s.generation ∧ (s.refuseOpening g t r).dirty = s.dirty ∧
    (s.refuseOpening g t r).runtime = s.runtime ∧ (s.refuseOpening g t r).port = s.port ∧
    (s.refuseOpening g t r).sending = s.sending ∧ (s.refuseOpening g t r).readPos = s.readPos ∧
    (s.refuseOpening g t r).lists = s.lists ∧ (s.refuseOpening g t r).openRecord = s.openRecord ∧
    (s.refuseOpening g t r).recordRequest = s.recordRequest ∧ (s.refuseOpening g t r).commitMarks = s.commitMarks ∧
    (s.refuseOpening g t r).log = s.log ∧ (s.refuseOpening g t r).nextSeq = s.nextSeq ∧
    (s.refuseOpening g t r).lost = s.lost ∧ (s.refuseOpening g t r).frame = s.frame ∧
    (s.refuseOpening g t r).buffer = s.buffer ∧ (s.refuseOpening g t r).response = s.response ∧
    (s.refuseOpening g t r).holdLimit = s.holdLimit ∧ (s.refuseOpening g t r).idleLimit = s.idleLimit ∧
    (s.refuseOpening g t r).alertEnable = s.alertEnable ∧ (s.refuseOpening g t r).pending = s.pending := by
  unfold State.refuseOpening; dsimp only; (repeat' split) <;> simp

@[simp] theorem State.answerOpening_frame (g : Seg) (t : Transaction) (ack : Bool) :
    (s.answerOpening g t ack).power = s.power ∧ (s.answerOpening g t ack).mga = s.mga ∧
    (s.answerOpening g t ack).active = s.active ∧ (s.answerOpening g t ack).staged = s.staged ∧
    (s.answerOpening g t ack).generation = s.generation ∧ (s.answerOpening g t ack).dirty = s.dirty ∧
    (s.answerOpening g t ack).runtime = s.runtime ∧ (s.answerOpening g t ack).port = s.port ∧
    (s.answerOpening g t ack).sending = s.sending ∧ (s.answerOpening g t ack).readPos = s.readPos ∧
    (s.answerOpening g t ack).lists = s.lists ∧ (s.answerOpening g t ack).openRecord = s.openRecord ∧
    (s.answerOpening g t ack).recordRequest = s.recordRequest ∧ (s.answerOpening g t ack).commitMarks = s.commitMarks ∧
    (s.answerOpening g t ack).log = s.log ∧ (s.answerOpening g t ack).nextSeq = s.nextSeq ∧
    (s.answerOpening g t ack).lost = s.lost ∧ (s.answerOpening g t ack).frame = s.frame ∧
    (s.answerOpening g t ack).buffer = s.buffer ∧ (s.answerOpening g t ack).response = s.response ∧
    (s.answerOpening g t ack).holdLimit = s.holdLimit ∧ (s.answerOpening g t ack).idleLimit = s.idleLimit ∧
    (s.answerOpening g t ack).alertEnable = s.alertEnable ∧ (s.answerOpening g t ack).pending = s.pending := by
  unfold State.answerOpening; (repeat' split) <;> simp

@[simp] theorem State.answerReadAddress_frame (g : Seg) (t : Transaction) (ack : Bool) :
    (s.answerReadAddress g t ack).power = s.power ∧ (s.answerReadAddress g t ack).mga = s.mga ∧
    (s.answerReadAddress g t ack).active = s.active ∧ (s.answerReadAddress g t ack).staged = s.staged ∧
    (s.answerReadAddress g t ack).generation = s.generation ∧ (s.answerReadAddress g t ack).dirty = s.dirty ∧
    (s.answerReadAddress g t ack).runtime = s.runtime ∧ (s.answerReadAddress g t ack).sending = s.sending ∧
    (s.answerReadAddress g t ack).readPos = s.readPos ∧ (s.answerReadAddress g t ack).lists = s.lists ∧
    (s.answerReadAddress g t ack).openRecord = s.openRecord ∧
    (s.answerReadAddress g t ack).recordRequest = s.recordRequest ∧ (s.answerReadAddress g t ack).cache = s.cache ∧
    (s.answerReadAddress g t ack).commitMarks = s.commitMarks ∧ (s.answerReadAddress g t ack).log = s.log ∧
    (s.answerReadAddress g t ack).nextSeq = s.nextSeq ∧ (s.answerReadAddress g t ack).lost = s.lost ∧
    (s.answerReadAddress g t ack).frame = s.frame ∧ (s.answerReadAddress g t ack).buffer = s.buffer ∧
    (s.answerReadAddress g t ack).response = s.response ∧ (s.answerReadAddress g t ack).holdLimit = s.holdLimit ∧
    (s.answerReadAddress g t ack).idleLimit = s.idleLimit ∧ (s.answerReadAddress g t ack).alertEnable = s.alertEnable ∧
    (s.answerReadAddress g t ack).pending = s.pending := by
  unfold State.answerReadAddress; (repeat' split) <;> simp

@[simp] theorem State.answerData_frame (g : Seg) (t : Transaction) (ack : Bool) :
    (s.answerData g t ack).power = s.power ∧ (s.answerData g t ack).mga = s.mga ∧ (s.answerData g t ack).active = s.active ∧
    (s.answerData g t ack).staged = s.staged ∧ (s.answerData g t ack).generation = s.generation ∧
    (s.answerData g t ack).dirty = s.dirty ∧ (s.answerData g t ack).port = s.port ∧
    (s.answerData g t ack).sending = s.sending ∧ (s.answerData g t ack).readPos = s.readPos ∧
    (s.answerData g t ack).lists = s.lists ∧ (s.answerData g t ack).openRecord = s.openRecord ∧
    (s.answerData g t ack).recordRequest = s.recordRequest ∧ (s.answerData g t ack).commitMarks = s.commitMarks ∧
    (s.answerData g t ack).frame = s.frame ∧ (s.answerData g t ack).buffer = s.buffer ∧
    (s.answerData g t ack).response = s.response ∧ (s.answerData g t ack).holdLimit = s.holdLimit ∧
    (s.answerData g t ack).idleLimit = s.idleLimit ∧ (s.answerData g t ack).alertEnable = s.alertEnable ∧
    (s.answerData g t ack).pending = s.pending := by
  unfold State.answerData; dsimp only; (repeat' split) <;> simp

@[simp] theorem State.recordSuccess_frame (g : Seg) (r : Record) (rest : List Record) :
    (s.recordSuccess g r rest).power = s.power ∧ (s.recordSuccess g r rest).mga = s.mga ∧
    (s.recordSuccess g r rest).active = s.active ∧ (s.recordSuccess g r rest).staged = s.staged ∧
    (s.recordSuccess g r rest).generation = s.generation ∧ (s.recordSuccess g r rest).dirty = s.dirty ∧
    (s.recordSuccess g r rest).port = s.port ∧ (s.recordSuccess g r rest).context = s.context ∧
    (s.recordSuccess g r rest).answer = s.answer ∧ (s.recordSuccess g r rest).sending = s.sending ∧
    (s.recordSuccess g r rest).readPos = s.readPos ∧ (s.recordSuccess g r rest).openRecord = s.openRecord ∧
    (s.recordSuccess g r rest).recordRequest = s.recordRequest ∧ (s.recordSuccess g r rest).engines = s.engines ∧
    (s.recordSuccess g r rest).cache = s.cache ∧ (s.recordSuccess g r rest).commitMarks = s.commitMarks ∧
    (s.recordSuccess g r rest).log = s.log ∧ (s.recordSuccess g r rest).nextSeq = s.nextSeq ∧
    (s.recordSuccess g r rest).lost = s.lost ∧ (s.recordSuccess g r rest).frame = s.frame ∧
    (s.recordSuccess g r rest).buffer = s.buffer ∧ (s.recordSuccess g r rest).response = s.response ∧
    (s.recordSuccess g r rest).holdLimit = s.holdLimit ∧ (s.recordSuccess g r rest).idleLimit = s.idleLimit ∧
    (s.recordSuccess g r rest).alertEnable = s.alertEnable ∧ (s.recordSuccess g r rest).pending = s.pending := by
  unfold State.recordSuccess; dsimp only; (repeat' split) <;> simp

@[simp] theorem State.reportAttempt_frame (g : Seg) (t : Transaction) :
    (s.reportAttempt g t).power = s.power ∧ (s.reportAttempt g t).mga = s.mga ∧ (s.reportAttempt g t).active = s.active ∧
    (s.reportAttempt g t).staged = s.staged ∧ (s.reportAttempt g t).generation = s.generation ∧
    (s.reportAttempt g t).dirty = s.dirty ∧ (s.reportAttempt g t).port = s.port ∧ (s.reportAttempt g t).answer = s.answer ∧
    (s.reportAttempt g t).sending = s.sending ∧ (s.reportAttempt g t).readPos = s.readPos ∧
    (s.reportAttempt g t).recordRequest = s.recordRequest ∧ (s.reportAttempt g t).engines = s.engines ∧
    (s.reportAttempt g t).commitMarks = s.commitMarks ∧ (s.reportAttempt g t).frame = s.frame ∧
    (s.reportAttempt g t).buffer = s.buffer ∧ (s.reportAttempt g t).response = s.response ∧
    (s.reportAttempt g t).holdLimit = s.holdLimit ∧ (s.reportAttempt g t).idleLimit = s.idleLimit ∧
    (s.reportAttempt g t).alertEnable = s.alertEnable ∧ (s.reportAttempt g t).pending = s.pending := by
  unfold State.reportAttempt; (repeat' split) <;> simp

@[simp] theorem State.reportStop_frame (g : Seg) (t : Transaction) :
    (s.reportStop g t).power = s.power ∧ (s.reportStop g t).mga = s.mga ∧ (s.reportStop g t).active = s.active ∧
    (s.reportStop g t).staged = s.staged ∧ (s.reportStop g t).generation = s.generation ∧
    (s.reportStop g t).dirty = s.dirty ∧ (s.reportStop g t).readPos = s.readPos ∧ (s.reportStop g t).engines = s.engines ∧
    (s.reportStop g t).commitMarks = s.commitMarks ∧ (s.reportStop g t).frame = s.frame ∧
    (s.reportStop g t).buffer = s.buffer ∧ (s.reportStop g t).response = s.response ∧
    (s.reportStop g t).holdLimit = s.holdLimit ∧ (s.reportStop g t).idleLimit = s.idleLimit ∧
    (s.reportStop g t).alertEnable = s.alertEnable ∧ (s.reportStop g t).pending = s.pending := by
  unfold State.reportStop; (repeat' split) <;> simp

@[simp] theorem State.reportFault_frame (g : Seg) (t : Transaction) (k : Kind) (d : Phase) :
    (s.reportFault g t k d).power = s.power ∧ (s.reportFault g t k d).mga = s.mga ∧
    (s.reportFault g t k d).active = s.active ∧ (s.reportFault g t k d).staged = s.staged ∧
    (s.reportFault g t k d).generation = s.generation ∧ (s.reportFault g t k d).dirty = s.dirty ∧
    (s.reportFault g t k d).readPos = s.readPos ∧ (s.reportFault g t k d).engines = s.engines ∧
    (s.reportFault g t k d).commitMarks = s.commitMarks ∧ (s.reportFault g t k d).frame = s.frame ∧
    (s.reportFault g t k d).buffer = s.buffer ∧ (s.reportFault g t k d).response = s.response ∧
    (s.reportFault g t k d).holdLimit = s.holdLimit ∧ (s.reportFault g t k d).idleLimit = s.idleLimit ∧
    (s.reportFault g t k d).alertEnable = s.alertEnable ∧ (s.reportFault g t k d).pending = s.pending := by
  unfold State.reportFault; dsimp only; (repeat' split) <;> simp

@[simp] theorem State.segmentFault_frame (g : Seg) (t : Transaction) (k : Kind) (d : Phase) :
    (s.segmentFault g t k d).power = s.power ∧ (s.segmentFault g t k d).mga = s.mga ∧
    (s.segmentFault g t k d).active = s.active ∧ (s.segmentFault g t k d).staged = s.staged ∧
    (s.segmentFault g t k d).generation = s.generation ∧ (s.segmentFault g t k d).dirty = s.dirty ∧
    (s.segmentFault g t k d).readPos = s.readPos ∧ (s.segmentFault g t k d).frame = s.frame ∧
    (s.segmentFault g t k d).buffer = s.buffer ∧ (s.segmentFault g t k d).response = s.response ∧
    (s.segmentFault g t k d).holdLimit = s.holdLimit ∧ (s.segmentFault g t k d).idleLimit = s.idleLimit ∧
    (s.segmentFault g t k d).alertEnable = s.alertEnable ∧ (s.segmentFault g t k d).pending = s.pending := by
  unfold State.segmentFault; simp

@[simp] theorem State.abortEngine_frame (g : Seg) :
    (s.abortEngine g).power = s.power ∧ (s.abortEngine g).mga = s.mga ∧ (s.abortEngine g).active = s.active ∧
    (s.abortEngine g).staged = s.staged ∧ (s.abortEngine g).generation = s.generation ∧ (s.abortEngine g).dirty = s.dirty ∧
    (s.abortEngine g).runtime = s.runtime ∧ (s.abortEngine g).port = s.port ∧ (s.abortEngine g).context = s.context ∧
    (s.abortEngine g).answer = s.answer ∧ (s.abortEngine g).sending = s.sending ∧ (s.abortEngine g).readPos = s.readPos ∧
    (s.abortEngine g).lists = s.lists ∧ (s.abortEngine g).openRecord = s.openRecord ∧
    (s.abortEngine g).recordRequest = s.recordRequest ∧ (s.abortEngine g).engines = s.engines ∧
    (s.abortEngine g).commitMarks = s.commitMarks ∧ (s.abortEngine g).frame = s.frame ∧
    (s.abortEngine g).buffer = s.buffer ∧ (s.abortEngine g).response = s.response ∧
    (s.abortEngine g).holdLimit = s.holdLimit ∧ (s.abortEngine g).idleLimit = s.idleLimit ∧
    (s.abortEngine g).alertEnable = s.alertEnable ∧ (s.abortEngine g).pending = s.pending := by
  unfold State.abortEngine; (repeat' split) <;> simp

/-! ### Frames of the recovery procedure -/

@[simp] theorem State.completeRecovery_frame (g : Seg) (p : Procedure) (o : Code) :
    (s.completeRecovery g p o).power = s.power ∧ (s.completeRecovery g p o).mga = s.mga ∧
    (s.completeRecovery g p o).active = s.active ∧ (s.completeRecovery g p o).staged = s.staged ∧
    (s.completeRecovery g p o).generation = s.generation ∧ (s.completeRecovery g p o).dirty = s.dirty ∧
    (s.completeRecovery g p o).runtime = s.runtime ∧ (s.completeRecovery g p o).port = s.port ∧
    (s.completeRecovery g p o).context = s.context ∧ (s.completeRecovery g p o).answer = s.answer ∧
    (s.completeRecovery g p o).sending = s.sending ∧ (s.completeRecovery g p o).readPos = s.readPos ∧
    (s.completeRecovery g p o).lists = s.lists ∧ (s.completeRecovery g p o).openRecord = s.openRecord ∧
    (s.completeRecovery g p o).recordRequest = s.recordRequest ∧ (s.completeRecovery g p o).engines = s.engines ∧
    (s.completeRecovery g p o).cache = s.cache ∧ (s.completeRecovery g p o).commitMarks = s.commitMarks ∧
    (s.completeRecovery g p o).log = s.log ∧ (s.completeRecovery g p o).nextSeq = s.nextSeq ∧
    (s.completeRecovery g p o).lost = s.lost ∧ (s.completeRecovery g p o).frame = s.frame ∧
    (s.completeRecovery g p o).buffer = s.buffer ∧ (s.completeRecovery g p o).holdLimit = s.holdLimit ∧
    (s.completeRecovery g p o).idleLimit = s.idleLimit ∧ (s.completeRecovery g p o).alertEnable = s.alertEnable ∧
    (s.completeRecovery g p o).pending = s.pending := by
  unfold State.completeRecovery; (repeat' split) <;> simp

@[simp] theorem State.recovered_frame (g : Seg) (p : Procedure) :
    (s.recovered g p).power = s.power ∧ (s.recovered g p).mga = s.mga ∧ (s.recovered g p).active = s.active ∧
    (s.recovered g p).staged = s.staged ∧ (s.recovered g p).generation = s.generation ∧ (s.recovered g p).dirty = s.dirty ∧
    (s.recovered g p).runtime = s.runtime ∧ (s.recovered g p).port = s.port ∧ (s.recovered g p).answer = s.answer ∧
    (s.recovered g p).sending = s.sending ∧ (s.recovered g p).readPos = s.readPos ∧
    (s.recovered g p).openRecord = s.openRecord ∧ (s.recovered g p).recordRequest = s.recordRequest ∧
    (s.recovered g p).cache = s.cache ∧ (s.recovered g p).commitMarks = s.commitMarks ∧ (s.recovered g p).log = s.log ∧
    (s.recovered g p).nextSeq = s.nextSeq ∧ (s.recovered g p).lost = s.lost ∧ (s.recovered g p).frame = s.frame ∧
    (s.recovered g p).buffer = s.buffer ∧ (s.recovered g p).holdLimit = s.holdLimit ∧
    (s.recovered g p).idleLimit = s.idleLimit ∧ (s.recovered g p).alertEnable = s.alertEnable ∧
    (s.recovered g p).pending = s.pending := by
  unfold State.recovered; simp

@[simp] theorem State.becomeStuck_frame (g : Seg) (p : Procedure) (c : StuckCause) :
    (s.becomeStuck g p c).power = s.power ∧ (s.becomeStuck g p c).mga = s.mga ∧ (s.becomeStuck g p c).active = s.active ∧
    (s.becomeStuck g p c).staged = s.staged ∧ (s.becomeStuck g p c).generation = s.generation ∧
    (s.becomeStuck g p c).dirty = s.dirty ∧ (s.becomeStuck g p c).readPos = s.readPos ∧
    (s.becomeStuck g p c).commitMarks = s.commitMarks ∧ (s.becomeStuck g p c).frame = s.frame ∧
    (s.becomeStuck g p c).buffer = s.buffer ∧ (s.becomeStuck g p c).holdLimit = s.holdLimit ∧
    (s.becomeStuck g p c).idleLimit = s.idleLimit ∧ (s.becomeStuck g p c).alertEnable = s.alertEnable ∧
    (s.becomeStuck g p c).pending = s.pending := by
  unfold State.becomeStuck; dsimp only; (repeat' split) <;> simp

@[simp] theorem State.pulseOrFail_frame (g : Seg) (p : Procedure) :
    (s.pulseOrFail g p).power = s.power ∧ (s.pulseOrFail g p).mga = s.mga ∧ (s.pulseOrFail g p).active = s.active ∧
    (s.pulseOrFail g p).staged = s.staged ∧ (s.pulseOrFail g p).generation = s.generation ∧
    (s.pulseOrFail g p).dirty = s.dirty ∧ (s.pulseOrFail g p).readPos = s.readPos ∧
    (s.pulseOrFail g p).commitMarks = s.commitMarks ∧ (s.pulseOrFail g p).frame = s.frame ∧
    (s.pulseOrFail g p).buffer = s.buffer ∧ (s.pulseOrFail g p).holdLimit = s.holdLimit ∧
    (s.pulseOrFail g p).idleLimit = s.idleLimit ∧ (s.pulseOrFail g p).alertEnable = s.alertEnable ∧
    (s.pulseOrFail g p).pending = s.pending := by
  unfold State.pulseOrFail; (repeat' split) <;> simp

/-! ### Frames of the upstream port's operations -/

@[simp] theorem State.logDenial_frame (c : Context) :
    (s.logDenial c).power = s.power ∧ (s.logDenial c).mga = s.mga ∧ (s.logDenial c).active = s.active ∧
    (s.logDenial c).staged = s.staged ∧ (s.logDenial c).generation = s.generation ∧ (s.logDenial c).dirty = s.dirty ∧
    (s.logDenial c).runtime = s.runtime ∧ (s.logDenial c).port = s.port ∧ (s.logDenial c).answer = s.answer ∧
    (s.logDenial c).sending = s.sending ∧ (s.logDenial c).readPos = s.readPos ∧ (s.logDenial c).lists = s.lists ∧
    (s.logDenial c).openRecord = s.openRecord ∧ (s.logDenial c).recordRequest = s.recordRequest ∧
    (s.logDenial c).engines = s.engines ∧ (s.logDenial c).cache = s.cache ∧ (s.logDenial c).commitMarks = s.commitMarks ∧
    (s.logDenial c).frame = s.frame ∧ (s.logDenial c).buffer = s.buffer ∧ (s.logDenial c).response = s.response ∧
    (s.logDenial c).holdLimit = s.holdLimit ∧ (s.logDenial c).idleLimit = s.idleLimit ∧
    (s.logDenial c).alertEnable = s.alertEnable ∧ (s.logDenial c).pending = s.pending := by
  unfold State.logDenial; (repeat' split) <;> simp

@[simp] theorem State.nackAddress_frame :
    s.nackAddress.power = s.power ∧ s.nackAddress.mga = s.mga ∧ s.nackAddress.active = s.active ∧
    s.nackAddress.staged = s.staged ∧ s.nackAddress.generation = s.generation ∧ s.nackAddress.dirty = s.dirty ∧
    s.nackAddress.runtime = s.runtime ∧ s.nackAddress.context = s.context ∧ s.nackAddress.sending = s.sending ∧
    s.nackAddress.readPos = s.readPos ∧ s.nackAddress.lists = s.lists ∧ s.nackAddress.openRecord = s.openRecord ∧
    s.nackAddress.recordRequest = s.recordRequest ∧ s.nackAddress.engines = s.engines ∧ s.nackAddress.cache = s.cache ∧
    s.nackAddress.commitMarks = s.commitMarks ∧ s.nackAddress.log = s.log ∧ s.nackAddress.nextSeq = s.nextSeq ∧
    s.nackAddress.lost = s.lost ∧ s.nackAddress.frame = s.frame ∧ s.nackAddress.buffer = s.buffer ∧
    s.nackAddress.response = s.response ∧ s.nackAddress.holdLimit = s.holdLimit ∧ s.nackAddress.idleLimit = s.idleLimit ∧
    s.nackAddress.alertEnable = s.alertEnable ∧ s.nackAddress.pending = s.pending := by
  unfold State.nackAddress; simp

@[simp] theorem State.makeRequest_frame (c : Context) (r : Request) (p : HoldPoint) :
    (s.makeRequest c r p).power = s.power ∧ (s.makeRequest c r p).mga = s.mga ∧ (s.makeRequest c r p).active = s.active ∧
    (s.makeRequest c r p).staged = s.staged ∧ (s.makeRequest c r p).generation = s.generation ∧
    (s.makeRequest c r p).dirty = s.dirty ∧ (s.makeRequest c r p).runtime = s.runtime ∧
    (s.makeRequest c r p).readPos = s.readPos ∧ (s.makeRequest c r p).openRecord = s.openRecord ∧
    (s.makeRequest c r p).cache = s.cache ∧ (s.makeRequest c r p).commitMarks = s.commitMarks ∧
    (s.makeRequest c r p).log = s.log ∧ (s.makeRequest c r p).nextSeq = s.nextSeq ∧ (s.makeRequest c r p).lost = s.lost ∧
    (s.makeRequest c r p).frame = s.frame ∧ (s.makeRequest c r p).buffer = s.buffer ∧
    (s.makeRequest c r p).response = s.response ∧ (s.makeRequest c r p).holdLimit = s.holdLimit ∧
    (s.makeRequest c r p).idleLimit = s.idleLimit ∧ (s.makeRequest c r p).alertEnable = s.alertEnable ∧
    (s.makeRequest c r p).pending = s.pending := by
  unfold State.makeRequest; dsimp only; (repeat' split) <;> simp

@[simp] theorem State.decodeRead_frame (i : Slot) :
    (s.decodeRead i).power = s.power ∧ (s.decodeRead i).mga = s.mga ∧ (s.decodeRead i).active = s.active ∧
    (s.decodeRead i).staged = s.staged ∧ (s.decodeRead i).generation = s.generation ∧ (s.decodeRead i).dirty = s.dirty ∧
    (s.decodeRead i).runtime = s.runtime ∧ (s.decodeRead i).readPos = s.readPos ∧
    (s.decodeRead i).openRecord = s.openRecord ∧ (s.decodeRead i).commitMarks = s.commitMarks ∧
    (s.decodeRead i).log = s.log ∧ (s.decodeRead i).nextSeq = s.nextSeq ∧ (s.decodeRead i).lost = s.lost ∧
    (s.decodeRead i).frame = s.frame ∧ (s.decodeRead i).buffer = s.buffer ∧ (s.decodeRead i).response = s.response ∧
    (s.decodeRead i).holdLimit = s.holdLimit ∧ (s.decodeRead i).idleLimit = s.idleLimit ∧
    (s.decodeRead i).alertEnable = s.alertEnable ∧ (s.decodeRead i).pending = s.pending := by
  unfold State.decodeRead; dsimp only; (repeat' split) <;> simp

@[simp] theorem State.decodeRouted_frame (i : Slot) (d : Direction) :
    (s.decodeRouted i d).power = s.power ∧ (s.decodeRouted i d).mga = s.mga ∧ (s.decodeRouted i d).active = s.active ∧
    (s.decodeRouted i d).staged = s.staged ∧ (s.decodeRouted i d).generation = s.generation ∧
    (s.decodeRouted i d).dirty = s.dirty ∧ (s.decodeRouted i d).runtime = s.runtime ∧
    (s.decodeRouted i d).readPos = s.readPos ∧ (s.decodeRouted i d).openRecord = s.openRecord ∧
    (s.decodeRouted i d).commitMarks = s.commitMarks ∧ (s.decodeRouted i d).frame = s.frame ∧
    (s.decodeRouted i d).buffer = s.buffer ∧ (s.decodeRouted i d).response = s.response ∧
    (s.decodeRouted i d).holdLimit = s.holdLimit ∧ (s.decodeRouted i d).idleLimit = s.idleLimit ∧
    (s.decodeRouted i d).alertEnable = s.alertEnable ∧ (s.decodeRouted i d).pending = s.pending := by
  unfold State.decodeRouted; dsimp only; (repeat' split) <;> simp

@[simp] theorem State.decodeManagement_frame (d : Direction) :
    (s.decodeManagement d).power = s.power ∧ (s.decodeManagement d).mga = s.mga ∧ (s.decodeManagement d).active = s.active ∧
    (s.decodeManagement d).staged = s.staged ∧ (s.decodeManagement d).generation = s.generation ∧
    (s.decodeManagement d).dirty = s.dirty ∧ (s.decodeManagement d).runtime = s.runtime ∧
    (s.decodeManagement d).context = s.context ∧ (s.decodeManagement d).lists = s.lists ∧
    (s.decodeManagement d).openRecord = s.openRecord ∧ (s.decodeManagement d).recordRequest = s.recordRequest ∧
    (s.decodeManagement d).engines = s.engines ∧ (s.decodeManagement d).cache = s.cache ∧
    (s.decodeManagement d).commitMarks = s.commitMarks ∧ (s.decodeManagement d).log = s.log ∧
    (s.decodeManagement d).nextSeq = s.nextSeq ∧ (s.decodeManagement d).lost = s.lost ∧
    (s.decodeManagement d).response = s.response ∧ (s.decodeManagement d).holdLimit = s.holdLimit ∧
    (s.decodeManagement d).idleLimit = s.idleLimit ∧ (s.decodeManagement d).alertEnable = s.alertEnable ∧
    (s.decodeManagement d).pending = s.pending := by
  unfold State.decodeManagement; (repeat' split) <;> simp

@[simp] theorem State.refuseByte_frame :
    s.refuseByte.power = s.power ∧ s.refuseByte.mga = s.mga ∧ s.refuseByte.active = s.active ∧
    s.refuseByte.staged = s.staged ∧ s.refuseByte.generation = s.generation ∧ s.refuseByte.dirty = s.dirty ∧
    s.refuseByte.runtime = s.runtime ∧ s.refuseByte.port = s.port ∧ s.refuseByte.sending = s.sending ∧
    s.refuseByte.readPos = s.readPos ∧ s.refuseByte.lists = s.lists ∧ s.refuseByte.openRecord = s.openRecord ∧
    s.refuseByte.recordRequest = s.recordRequest ∧ s.refuseByte.engines = s.engines ∧ s.refuseByte.cache = s.cache ∧
    s.refuseByte.commitMarks = s.commitMarks ∧ s.refuseByte.log = s.log ∧ s.refuseByte.nextSeq = s.nextSeq ∧
    s.refuseByte.lost = s.lost ∧ s.refuseByte.frame = s.frame ∧ s.refuseByte.buffer = s.buffer ∧
    s.refuseByte.response = s.response ∧ s.refuseByte.holdLimit = s.holdLimit ∧ s.refuseByte.idleLimit = s.idleLimit ∧
    s.refuseByte.alertEnable = s.alertEnable ∧ s.refuseByte.pending = s.pending := by
  unfold State.refuseByte; simp

@[simp] theorem State.denyWrite_frame (c : Context) :
    (s.denyWrite c).power = s.power ∧ (s.denyWrite c).mga = s.mga ∧ (s.denyWrite c).active = s.active ∧
    (s.denyWrite c).staged = s.staged ∧ (s.denyWrite c).generation = s.generation ∧ (s.denyWrite c).dirty = s.dirty ∧
    (s.denyWrite c).runtime = s.runtime ∧ (s.denyWrite c).port = s.port ∧ (s.denyWrite c).sending = s.sending ∧
    (s.denyWrite c).readPos = s.readPos ∧ (s.denyWrite c).lists = s.lists ∧ (s.denyWrite c).openRecord = s.openRecord ∧
    (s.denyWrite c).recordRequest = s.recordRequest ∧ (s.denyWrite c).cache = s.cache ∧
    (s.denyWrite c).commitMarks = s.commitMarks ∧ (s.denyWrite c).frame = s.frame ∧ (s.denyWrite c).buffer = s.buffer ∧
    (s.denyWrite c).response = s.response ∧ (s.denyWrite c).holdLimit = s.holdLimit ∧
    (s.denyWrite c).idleLimit = s.idleLimit ∧ (s.denyWrite c).alertEnable = s.alertEnable ∧
    (s.denyWrite c).pending = s.pending := by
  unfold State.denyWrite; dsimp only; (repeat' split) <;> simp

@[simp] theorem State.handWriteByte_frame (c : Context) (b : Byte) :
    (s.handWriteByte c b).power = s.power ∧ (s.handWriteByte c b).mga = s.mga ∧ (s.handWriteByte c b).active = s.active ∧
    (s.handWriteByte c b).staged = s.staged ∧ (s.handWriteByte c b).generation = s.generation ∧
    (s.handWriteByte c b).dirty = s.dirty ∧ (s.handWriteByte c b).runtime = s.runtime ∧
    (s.handWriteByte c b).port = s.port ∧ (s.handWriteByte c b).sending = s.sending ∧
    (s.handWriteByte c b).readPos = s.readPos ∧ (s.handWriteByte c b).lists = s.lists ∧
    (s.handWriteByte c b).openRecord = s.openRecord ∧ (s.handWriteByte c b).recordRequest = s.recordRequest ∧
    (s.handWriteByte c b).cache = s.cache ∧ (s.handWriteByte c b).commitMarks = s.commitMarks ∧
    (s.handWriteByte c b).log = s.log ∧ (s.handWriteByte c b).nextSeq = s.nextSeq ∧ (s.handWriteByte c b).lost = s.lost ∧
    (s.handWriteByte c b).frame = s.frame ∧ (s.handWriteByte c b).buffer = s.buffer ∧
    (s.handWriteByte c b).response = s.response ∧ (s.handWriteByte c b).holdLimit = s.holdLimit ∧
    (s.handWriteByte c b).idleLimit = s.idleLimit ∧ (s.handWriteByte c b).alertEnable = s.alertEnable ∧
    (s.handWriteByte c b).pending = s.pending := by
  unfold State.handWriteByte; dsimp only; (repeat' split) <;> simp

@[simp] theorem State.deliver_frame (c : Context) :
    (s.deliver c).power = s.power ∧ (s.deliver c).mga = s.mga ∧ (s.deliver c).active = s.active ∧
    (s.deliver c).staged = s.staged ∧ (s.deliver c).generation = s.generation ∧ (s.deliver c).dirty = s.dirty ∧
    (s.deliver c).port = s.port ∧ (s.deliver c).answer = s.answer ∧ (s.deliver c).sending = s.sending ∧
    (s.deliver c).readPos = s.readPos ∧ (s.deliver c).lists = s.lists ∧ (s.deliver c).openRecord = s.openRecord ∧
    (s.deliver c).recordRequest = s.recordRequest ∧ (s.deliver c).engines = s.engines ∧ (s.deliver c).cache = s.cache ∧
    (s.deliver c).commitMarks = s.commitMarks ∧ (s.deliver c).log = s.log ∧ (s.deliver c).nextSeq = s.nextSeq ∧
    (s.deliver c).lost = s.lost ∧ (s.deliver c).frame = s.frame ∧ (s.deliver c).buffer = s.buffer ∧
    (s.deliver c).response = s.response ∧ (s.deliver c).holdLimit = s.holdLimit ∧ (s.deliver c).idleLimit = s.idleLimit ∧
    (s.deliver c).alertEnable = s.alertEnable ∧ (s.deliver c).pending = s.pending := by
  unfold State.deliver; (repeat' split) <;> simp

@[simp] theorem State.sendFiller_frame :
    s.sendFiller.power = s.power ∧ s.sendFiller.mga = s.mga ∧ s.sendFiller.active = s.active ∧
    s.sendFiller.staged = s.staged ∧ s.sendFiller.generation = s.generation ∧ s.sendFiller.dirty = s.dirty ∧
    s.sendFiller.runtime = s.runtime ∧ s.sendFiller.port = s.port ∧ s.sendFiller.answer = s.answer ∧
    s.sendFiller.readPos = s.readPos ∧ s.sendFiller.lists = s.lists ∧ s.sendFiller.openRecord = s.openRecord ∧
    s.sendFiller.recordRequest = s.recordRequest ∧ s.sendFiller.engines = s.engines ∧ s.sendFiller.cache = s.cache ∧
    s.sendFiller.commitMarks = s.commitMarks ∧ s.sendFiller.log = s.log ∧ s.sendFiller.nextSeq = s.nextSeq ∧
    s.sendFiller.lost = s.lost ∧ s.sendFiller.frame = s.frame ∧ s.sendFiller.buffer = s.buffer ∧
    s.sendFiller.response = s.response ∧ s.sendFiller.holdLimit = s.holdLimit ∧ s.sendFiller.idleLimit = s.idleLimit ∧
    s.sendFiller.alertEnable = s.alertEnable ∧ s.sendFiller.pending = s.pending := by
  unfold State.sendFiller; simp

@[simp] theorem State.readOn_frame (c : Context) :
    (s.readOn c).power = s.power ∧ (s.readOn c).mga = s.mga ∧ (s.readOn c).active = s.active ∧
    (s.readOn c).staged = s.staged ∧ (s.readOn c).generation = s.generation ∧ (s.readOn c).dirty = s.dirty ∧
    (s.readOn c).runtime = s.runtime ∧ (s.readOn c).port = s.port ∧ (s.readOn c).answer = s.answer ∧
    (s.readOn c).readPos = s.readPos ∧ (s.readOn c).lists = s.lists ∧ (s.readOn c).openRecord = s.openRecord ∧
    (s.readOn c).recordRequest = s.recordRequest ∧ (s.readOn c).cache = s.cache ∧ (s.readOn c).commitMarks = s.commitMarks ∧
    (s.readOn c).log = s.log ∧ (s.readOn c).nextSeq = s.nextSeq ∧ (s.readOn c).lost = s.lost ∧
    (s.readOn c).frame = s.frame ∧ (s.readOn c).buffer = s.buffer ∧ (s.readOn c).response = s.response ∧
    (s.readOn c).holdLimit = s.holdLimit ∧ (s.readOn c).idleLimit = s.idleLimit ∧ (s.readOn c).alertEnable = s.alertEnable ∧
    (s.readOn c).pending = s.pending := by
  unfold State.readOn; dsimp only; (repeat' split) <;> simp

@[simp] theorem State.nextReadByte_frame (c : Context) :
    (s.nextReadByte c).power = s.power ∧ (s.nextReadByte c).mga = s.mga ∧ (s.nextReadByte c).active = s.active ∧
    (s.nextReadByte c).staged = s.staged ∧ (s.nextReadByte c).generation = s.generation ∧
    (s.nextReadByte c).dirty = s.dirty ∧ (s.nextReadByte c).runtime = s.runtime ∧ (s.nextReadByte c).readPos = s.readPos ∧
    (s.nextReadByte c).openRecord = s.openRecord ∧ (s.nextReadByte c).commitMarks = s.commitMarks ∧
    (s.nextReadByte c).frame = s.frame ∧ (s.nextReadByte c).buffer = s.buffer ∧ (s.nextReadByte c).response = s.response ∧
    (s.nextReadByte c).holdLimit = s.holdLimit ∧ (s.nextReadByte c).idleLimit = s.idleLimit ∧
    (s.nextReadByte c).alertEnable = s.alertEnable ∧ (s.nextReadByte c).pending = s.pending := by
  unfold State.nextReadByte; dsimp only; (repeat' split) <;> simp

@[simp] theorem State.routedReadAnswer_frame (c : Context) (ack : Bool) :
    (s.routedReadAnswer c ack).power = s.power ∧ (s.routedReadAnswer c ack).mga = s.mga ∧
    (s.routedReadAnswer c ack).active = s.active ∧ (s.routedReadAnswer c ack).staged = s.staged ∧
    (s.routedReadAnswer c ack).generation = s.generation ∧ (s.routedReadAnswer c ack).dirty = s.dirty ∧
    (s.routedReadAnswer c ack).readPos = s.readPos ∧ (s.routedReadAnswer c ack).openRecord = s.openRecord ∧
    (s.routedReadAnswer c ack).commitMarks = s.commitMarks ∧ (s.routedReadAnswer c ack).frame = s.frame ∧
    (s.routedReadAnswer c ack).buffer = s.buffer ∧ (s.routedReadAnswer c ack).response = s.response ∧
    (s.routedReadAnswer c ack).holdLimit = s.holdLimit ∧ (s.routedReadAnswer c ack).idleLimit = s.idleLimit ∧
    (s.routedReadAnswer c ack).alertEnable = s.alertEnable ∧ (s.routedReadAnswer c ack).pending = s.pending := by
  unfold State.routedReadAnswer; dsimp only; (repeat' split) <;> simp

@[simp] theorem State.releaseRequest_frame (c : Context) (owed : Bool) :
    (s.releaseRequest c owed).power = s.power ∧ (s.releaseRequest c owed).mga = s.mga ∧
    (s.releaseRequest c owed).active = s.active ∧ (s.releaseRequest c owed).staged = s.staged ∧
    (s.releaseRequest c owed).generation = s.generation ∧ (s.releaseRequest c owed).dirty = s.dirty ∧
    (s.releaseRequest c owed).runtime = s.runtime ∧ (s.releaseRequest c owed).port = s.port ∧
    (s.releaseRequest c owed).context = s.context ∧ (s.releaseRequest c owed).answer = s.answer ∧
    (s.releaseRequest c owed).sending = s.sending ∧ (s.releaseRequest c owed).readPos = s.readPos ∧
    (s.releaseRequest c owed).lists = s.lists ∧ (s.releaseRequest c owed).openRecord = s.openRecord ∧
    (s.releaseRequest c owed).recordRequest = s.recordRequest ∧ (s.releaseRequest c owed).cache = s.cache ∧
    (s.releaseRequest c owed).commitMarks = s.commitMarks ∧ (s.releaseRequest c owed).log = s.log ∧
    (s.releaseRequest c owed).nextSeq = s.nextSeq ∧ (s.releaseRequest c owed).lost = s.lost ∧
    (s.releaseRequest c owed).frame = s.frame ∧ (s.releaseRequest c owed).buffer = s.buffer ∧
    (s.releaseRequest c owed).response = s.response ∧ (s.releaseRequest c owed).holdLimit = s.holdLimit ∧
    (s.releaseRequest c owed).idleLimit = s.idleLimit ∧ (s.releaseRequest c owed).alertEnable = s.alertEnable ∧
    (s.releaseRequest c owed).pending = s.pending := by
  unfold State.releaseRequest; (repeat' split) <;> simp

@[simp] theorem State.queueOpen_frame :
    s.queueOpen.power = s.power ∧ s.queueOpen.mga = s.mga ∧ s.queueOpen.active = s.active ∧ s.queueOpen.staged = s.staged ∧
    s.queueOpen.generation = s.generation ∧ s.queueOpen.dirty = s.dirty ∧ s.queueOpen.port = s.port ∧
    s.queueOpen.answer = s.answer ∧ s.queueOpen.sending = s.sending ∧ s.queueOpen.readPos = s.readPos ∧
    s.queueOpen.recordRequest = s.recordRequest ∧ s.queueOpen.cache = s.cache ∧ s.queueOpen.commitMarks = s.commitMarks ∧
    s.queueOpen.log = s.log ∧ s.queueOpen.nextSeq = s.nextSeq ∧ s.queueOpen.lost = s.lost ∧ s.queueOpen.frame = s.frame ∧
    s.queueOpen.buffer = s.buffer ∧ s.queueOpen.response = s.response ∧ s.queueOpen.holdLimit = s.holdLimit ∧
    s.queueOpen.idleLimit = s.idleLimit ∧ s.queueOpen.alertEnable = s.alertEnable ∧ s.queueOpen.pending = s.pending := by
  unfold State.queueOpen; dsimp only; (repeat' split) <;> simp

@[simp] theorem State.endRouted_frame :
    s.endRouted.power = s.power ∧ s.endRouted.mga = s.mga ∧ s.endRouted.active = s.active ∧ s.endRouted.staged = s.staged ∧
    s.endRouted.generation = s.generation ∧ s.endRouted.dirty = s.dirty ∧ s.endRouted.port = s.port ∧
    s.endRouted.answer = s.answer ∧ s.endRouted.sending = s.sending ∧ s.endRouted.readPos = s.readPos ∧
    s.endRouted.recordRequest = s.recordRequest ∧ s.endRouted.cache = s.cache ∧ s.endRouted.commitMarks = s.commitMarks ∧
    s.endRouted.log = s.log ∧ s.endRouted.nextSeq = s.nextSeq ∧ s.endRouted.lost = s.lost ∧ s.endRouted.frame = s.frame ∧
    s.endRouted.buffer = s.buffer ∧ s.endRouted.response = s.response ∧ s.endRouted.holdLimit = s.holdLimit ∧
    s.endRouted.idleLimit = s.idleLimit ∧ s.endRouted.alertEnable = s.alertEnable ∧ s.endRouted.pending = s.pending := by
  unfold State.endRouted; dsimp only; (repeat' split) <;> simp

@[simp] theorem State.abandonWork_frame :
    s.abandonWork.power = s.power ∧ s.abandonWork.mga = s.mga ∧ s.abandonWork.active = s.active ∧
    s.abandonWork.staged = s.staged ∧ s.abandonWork.generation = s.generation ∧ s.abandonWork.dirty = s.dirty ∧
    s.abandonWork.port = s.port ∧ s.abandonWork.answer = s.answer ∧ s.abandonWork.sending = s.sending ∧
    s.abandonWork.readPos = s.readPos ∧ s.abandonWork.lists = s.lists ∧ s.abandonWork.recordRequest = s.recordRequest ∧
    s.abandonWork.cache = s.cache ∧ s.abandonWork.commitMarks = s.commitMarks ∧ s.abandonWork.log = s.log ∧
    s.abandonWork.nextSeq = s.nextSeq ∧ s.abandonWork.lost = s.lost ∧ s.abandonWork.response = s.response ∧
    s.abandonWork.holdLimit = s.holdLimit ∧ s.abandonWork.idleLimit = s.idleLimit ∧
    s.abandonWork.alertEnable = s.alertEnable ∧ s.abandonWork.pending = s.pending := by
  unfold State.abandonWork; (repeat' split) <;> simp

/-! ### Frames of SEG_DISABLE and WARM_RESTART -/

@[simp] theorem State.restartEngine_frame (l : SegSamples) (g : Seg) :
    (s.restartEngine l g).power = s.power ∧ (s.restartEngine l g).mga = s.mga ∧ (s.restartEngine l g).active = s.active ∧
    (s.restartEngine l g).staged = s.staged ∧ (s.restartEngine l g).generation = s.generation ∧
    (s.restartEngine l g).dirty = s.dirty ∧ (s.restartEngine l g).runtime = s.runtime ∧
    (s.restartEngine l g).port = s.port ∧ (s.restartEngine l g).context = s.context ∧
    (s.restartEngine l g).answer = s.answer ∧ (s.restartEngine l g).sending = s.sending ∧
    (s.restartEngine l g).readPos = s.readPos ∧ (s.restartEngine l g).lists = s.lists ∧
    (s.restartEngine l g).openRecord = s.openRecord ∧ (s.restartEngine l g).recordRequest = s.recordRequest ∧
    (s.restartEngine l g).frame = s.frame ∧ (s.restartEngine l g).buffer = s.buffer ∧
    (s.restartEngine l g).response = s.response ∧ (s.restartEngine l g).holdLimit = s.holdLimit ∧
    (s.restartEngine l g).idleLimit = s.idleLimit ∧ (s.restartEngine l g).alertEnable = s.alertEnable ∧
    (s.restartEngine l g).pending = s.pending := by
  unfold State.restartEngine; (repeat' split) <;> simp

@[simp] theorem State.forceDisable_frame (g : Seg) :
    (s.forceDisable g).power = s.power ∧ (s.forceDisable g).mga = s.mga ∧ (s.forceDisable g).active = s.active ∧
    (s.forceDisable g).staged = s.staged ∧ (s.forceDisable g).generation = s.generation ∧
    (s.forceDisable g).dirty = s.dirty ∧ (s.forceDisable g).port = s.port ∧ (s.forceDisable g).sending = s.sending ∧
    (s.forceDisable g).readPos = s.readPos ∧ (s.forceDisable g).frame = s.frame ∧ (s.forceDisable g).buffer = s.buffer ∧
    (s.forceDisable g).response = s.response ∧ (s.forceDisable g).holdLimit = s.holdLimit ∧
    (s.forceDisable g).idleLimit = s.idleLimit ∧ (s.forceDisable g).alertEnable = s.alertEnable ∧
    (s.forceDisable g).pending = s.pending := by
  unfold State.forceDisable; simp

end Sys2Proof.Machine
end

