-- ==== Sys2Proof/Laws/Ops.lean ====
section
/-! SUPPORT. What the shared operations do, said once in the words of the claims: bytes and words, cache lines, denials, aborts,
counts, the end of a hold, the arbiter, and the transactions' next bytes. -/

namespace Sys2Proof

/-- Joining two bytes is concatenation, high byte first. -/
theorem joinBytes_eq_append (hi lo : Byte) : joinBytes hi lo = hi ++ lo := by
  apply BitVec.eq_of_toNat_eq
  have h1 := hi.isLt
  have h2 := lo.isLt
  simp only [joinBytes, BitVec.toNat_append, BitVec.toNat_ofNat]
  rw [Nat.shiftLeft_eq, Nat.mul_comm, ← Nat.two_pow_add_eq_or_of_lt h2]
  omega

/-- A byte joined under a zero byte is the byte as a number. -/
theorem joinBytes_zero (lo : Byte) : joinBytes 0#8 lo = lo.setWidth 16 := by
  apply BitVec.eq_of_toNat_eq
  have h2 := lo.isLt
  simp only [joinBytes, BitVec.toNat_ofNat, BitVec.toNat_setWidth]
  omega

/-- The high byte is the upper eight bits. -/
theorem hiByte_eq_extract (w : Word16) : hiByte w = w.extractLsb' 8 8 := by
  apply BitVec.eq_of_toNat_eq
  simp only [hiByte, BitVec.toNat_ofNat, BitVec.extractLsb'_toNat, Nat.shiftRight_eq_div_pow]

/-- The low byte is the word cut to eight bits. -/
theorem loByte_eq_setWidth (w : Word16) : loByte w = w.setWidth 8 := by
  apply BitVec.eq_of_toNat_eq
  simp only [loByte, BitVec.toNat_ofNat, BitVec.toNat_setWidth]

/-- Splitting a word and joining its bytes gives it back. -/
@[simp] theorem joinBytes_hiByte_loByte (w : Word16) : joinBytes (hiByte w) (loByte w) = w := by
  apply BitVec.eq_of_toNat_eq
  have h := w.isLt
  simp only [joinBytes, hiByte, loByte, BitVec.toNat_ofNat]
  omega

namespace Machine

/-! ### Operands -/

/-- The index bytes of a width. -/
theorem indexBytes_eq_bytesOf (w : IndexWidth) (i : Word16) : indexBytes w i = w.bytesOf i := by
  cases w <;> simp [indexBytes, IndexWidth.bytesOf, hiByte_eq_extract, loByte_eq_setWidth]

/-- A width has as many index bytes as its number says. -/
@[simp] theorem IndexWidth.bytesOf_length (w : IndexWidth) (i : Word16) : (w.bytesOf i).length = w.bytes := by
  cases w <;> rfl

/-- A width is indexed where it is not raw. -/
theorem IndexWidth.indexed_iff (w : IndexWidth) : w.indexed = true ↔ w ≠ .raw := by cases w <;> decide

/-- A width is not indexed where it is raw. -/
theorem IndexWidth.indexed_false_iff (w : IndexWidth) : w.indexed = false ↔ w = .raw := by cases w <;> decide

/-- The address byte of a write is PA followed by a 0. -/
theorem addressByte_write (pa : Addr) : addressByte pa .write = pa ++ 0#1 := by
  apply BitVec.eq_of_toNat_eq
  have h := pa.isLt
  simp only [addressByte, BitVec.toNat_append, BitVec.toNat_ofNat, Nat.shiftLeft_eq]
  simp
  omega

/-- The address byte of a read is PA followed by a 1. -/
theorem addressByte_read (pa : Addr) : addressByte pa .read = pa ++ 1#1 := by
  apply BitVec.eq_of_toNat_eq
  have h := pa.isLt
  simp only [addressByte, BitVec.toNat_append, BitVec.toNat_ofNat, Nat.shiftLeft_eq]
  rw [Nat.mul_comm, ← Nat.two_pow_add_eq_or_of_lt (i := 1) (by decide)]
  simp
  omega

/-- The slot that alone claims an address is the one found. -/
theorem State.Claims.findRoute_eq {s : State} {i : Slot} {a : Addr} (h : s.Claims i a) : findRoute s.active a = some i := by
  obtain ⟨h1, h2, h3⟩ := h
  cases hf : findRoute s.active a with
  | none =>
    simp only [findRoute, List.find?_eq_none] at hf
    exact absurd (hf i (by simp)) (by rw [h1, h2]; simp)
  | some j =>
    have := List.find?_some hf
    simp only [Bool.and_eq_true, beq_iff_eq] at this
    rw [h3 j this.1 this.2]

/-- No slot is found for an address that none claims. -/
theorem findRoute_eq_none {t : Tables} {a : Addr} (h : ∀ i : Slot, ¬(t.routes[i].valid = true ∧ t.routes[i].vaddr = a)) :
    findRoute t a = none := by
  simp only [findRoute, List.find?_eq_none]
  intro i _
  simpa using h i

/-! ### Cache lines -/

/-- A key is found where some line has it. -/
theorem lookup_isSome_iff (c : List Line) (k : Key) : (lookup c k).isSome = true ↔ ∃ l ∈ c, l.key = k := by
  simp [lookup]

/-- A key is not found where no line has it. -/
theorem lookup_eq_none_iff (c : List Line) (k : Key) : lookup c k = none ↔ ∀ l ∈ c, l.key ≠ k := by
  simp [lookup]

/-- The lines left when a key is dropped. -/
theorem dropKey_eq (c : List Line) (k : Key) : dropKey c k = c.filter fun l => decide (l.key ≠ k) := by
  simp only [dropKey]
  congr 1
  funext l
  by_cases h : l.key = k <;> simp [h]

/-- The lines left when a target is dropped. -/
theorem dropTarget_eq (c : List Line) (g : Seg) (pa : Addr) :
    dropTarget c g pa = c.filter fun l => decide ¬(l.key.segment = g ∧ l.key.paddr = pa) := by
  simp only [dropTarget]
  congr 1
  funext l
  by_cases h : l.key.segment = g <;> by_cases h' : l.key.paddr = pa <;> simp [h, h']

/-- A target is named where some record present names it. -/
theorem State.anyNames_iff (s : State) (g : Seg) (pa : Addr) :
    s.anyNames g pa = true ↔ ∃ x ∈ s.records, x.segment = g ∧ x.paddr = pa := by
  simp [State.anyNames, Record.names]

/-- A target is not named where no record present names it. -/
theorem State.anyNames_false_iff (s : State) (g : Seg) (pa : Addr) :
    s.anyNames g pa = false ↔ ∀ x ∈ s.records, ¬(x.segment = g ∧ x.paddr = pa) := by
  rw [Bool.eq_false_iff, ne_eq, State.anyNames_iff]
  simp

/-- A write byte whose outcome is not sure loses its line. -/
theorem State.cacheUnsure_writeKey (s : State) (r : Request) (i : Word16) :
    s.cacheUnsure (writeKey r.width r.segment r.paddr i) = { s with cache := s.lineDropped r i } := by
  cases hw : r.width <;> simp [writeKey, IndexWidth.indexed, State.cacheUnsure, State.lineDropped, hw, dropKey_eq]

/-- The late outcome of a withdrawn write byte (R59, R123, R159). -/
theorem State.lateOutcome_eq (s : State) (t : Transaction) (r : Request) (delivered : Bool) :
    s.lateOutcome t r delivered =
      if t.entryOwed then
        { s with cache := s.lineDropped r t.writeIndex }.append
          (r.entry .upHoldExpired (some t.writeIndex) 0x04#8 (if delivered then 0x81#8 else 0x01#8) false)
      else { s with cache := s.lineDropped r t.writeIndex } := by
  simp only [State.lateOutcome, State.cacheUnsure_writeKey]
  cases delivered <;> rfl

/-- The transaction of a record that an engine takes. -/
theorem Transaction.ofRecord_eq : Transaction.ofRecord = Transaction.fresh .record 0#16 0#8 false := rfl

/-- The report of an abort (R124). -/
theorem State.abortEngine_eq (s : State) (g : Seg) : s.abortEngine g = s.aborted g := by
  unfold State.abortEngine State.aborted
  simp only [State.lateOutcome_eq]
  repeat' split
  all_goals simp_all

/-- The entry of a denied byte, and the mark that one was made (R44). -/
theorem State.logDenial_eq {s : State} {c : Context} (hc : s.context = some c) :
    s.logDenial c =
      { s.byteDenied c with
        context := some { c with denialLogged := c.denialLogged || s.active.routes[c.slot].logDenials } } := by
  unfold State.logDenial State.byteDenied State.append
  cases hl : s.active.routes[c.slot].logDenials <;> cases hd : c.denialLogged <;>
    simp [hc, State.onContext, denialEntry, Entry.blank, DenialReason.value]
  · cases s; cases c; simp_all
  · cases s; cases c; simp_all
  · split <;> exact ⟨c, by simp⟩
  · cases s; cases c; simp_all

/-- An IDLE engine without an unblocked request takes its head record, if that is QUEUED (R111, R112). -/
theorem State.arbiter_eq_headTaken {s : State} {g : Seg} (h : (s.engine g).mode = .idle) (hr : s.unblockedRequest g = none) :
    s.arbiter g = s.headTaken g := by
  simp only [State.arbiter, State.headTaken, h, hr, Transaction.ofRecord_eq]
  cases s.list g <;> rfl

/-! ### Counts and holds -/

/-- A byte counted moves the context on, and the Pointer with it while Follow is set. -/
theorem State.countByte_eq (s : State) (c : Context) :
    s.countByte c = { s with context := some c.counted }.followed c := by
  simp only [State.countByte, State.followed, Context.counted, Config.countMax]

/-- A posted byte accepted into a record (R63, R64, R158). -/
theorem State.acceptPosted_eq (s : State) (c : Context) (r : Record) (b : Byte) :
    s.acceptPosted c r b =
      { s with
        openRecord := some r, answer := .ack,
        cache := if c.route.width = IndexWidth.raw then s.cache else updateLine s.cache (c.key (c.index.getD 0#16)) b,
        context := some c.counted }.followed c := by
  cases hw : c.route.width <;>
    simp [State.acceptPosted, writeKey, hw, IndexWidth.indexed, State.countByte_eq, Context.key]

/-- The record that a posted byte opens. -/
theorem openedRecord_eq (c : Context) (b : Byte) : openedRecord c b = c.recordOf b := by
  cases hw : c.route.width <;> simp [openedRecord, Context.recordOf, hw, IndexWidth.indexed]

/-- A hold that fails ends as the table of R58 gives. -/
theorem State.failHold_eq {s : State} {c : Context} {h : Hold} (hc : s.context = some c) (hh : c.hold = some h) :
    s.failHold = s.holdEnded c h.point := by
  cases hp : h.point <;> simp [State.failHold, hc, hh, hp, State.holdEnded, Config.filler]

/-- Without a hold there is none to fail. -/
theorem State.failHold_eq_self {s : State} (h : ∀ c, s.context = some c → c.hold = none) : s.failHold = s := by
  cases hc : s.context with
  | none => simp [State.failHold, hc]
  | some c => simp [State.failHold, hc, h c hc]

/-! ### Transactions -/

/-- The orderly end of a transaction (R121). -/
theorem Transaction.orderlyEnd_eq (t : Transaction) : t.orderlyEnd = t.ended := by
  cases hp : t.phase <;> simp [Transaction.orderlyEnd, Transaction.ended, hp]

/-- The transaction of a request that an engine takes. -/
theorem Transaction.ofRequest_eq (r : Request) :
    Transaction.ofRequest r =
      Transaction.fresh (.request r) (r.index.getD 0#16) r.firstByte (decide (r.kind = .write)) := by
  cases hk : r.kind <;> simp [Transaction.ofRequest, Transaction.fresh, hk]

/-- The bytes of a record after its address byte. -/
theorem Record.content_eq (r : Record) : r.content = r.width.bytesOf (r.index.getD 0#16) ++ r.data := by
  simp only [Record.content, indexBytes_eq_bytesOf]

/-- The bytes of a request after PA+W. -/
theorem Request.content_eq (r : Request) :
    r.content = r.width.bytesOf (r.index.getD 0#16) ++ (if r.kind = .write then [r.firstByte] else []) := by
  simp only [Request.content, indexBytes_eq_bytesOf]

/-! ### The log -/

/-- An append keeps the log's entries in front, and adds at most one behind them (R166, R173). -/
theorem State.append_log (s : State) (e : Entry) : ∃ new, (s.append e).log = s.log ++ new ∧ new.length ≤ 1 := by
  simp only [State.append]
  split
  · exact ⟨_, rfl, by simp⟩
  · exact ⟨[], by simp, by simp⟩

end Machine

end Sys2Proof
end

