-- ==== Sys2Proof/Tests/Slice0.lean ====
section
/-! SUPPORT. Tests. Expected results come from the spec's tables and examples, named in each docstring. A `witness_` theorem shows
states and operands that meet the hypotheses of the statement it is named after, one for each clause. -/

namespace Sys2Proof.Tests

open Sys2Proof.Machine

/-! ### Well-formed commands: each check refuses an ill-formed one (R185, R188, R205) -/

/-- A BAD_COMMAND whose code names STATUS is refused; one with the code 04h, which the table lacks, is not. -/
theorem test_wf_badCommand : (Instr.badCommand 0x01#8 0#8).wf = false ∧ (Instr.badCommand 0x04#8 0#8).wf = true := by decide

/-- A BAD_LENGTH in OVERRUN holds twenty bytes. -/
theorem test_wf_badLength_overrun :
    (Instr.badLength (List.replicate 19 0#8) true).wf = false ∧ (Instr.badLength (List.replicate 20 0#8) true).wf = true := by
  decide

/-- A BAD_LENGTH outside OVERRUN has a byte, a known code, a wrong operand count, and at most twenty bytes. -/
theorem test_wf_badLength :
    (Instr.badLength [] false).wf = false ∧ (Instr.badLength [0xEE#8, 0#8] false).wf = false ∧
    (Instr.badLength [0x02#8, 0#8, 1#8, 2#8, 3#8] false).wf = false ∧
    (Instr.badLength (0x01#8 :: List.replicate 20 0#8) false).wf = false ∧ (Instr.badLength [0x01#8] false).wf = true ∧
    (Instr.badLength [0x02#8, 0#8, 1#8] false).wf = true := by
  decide

/-! ### Frames, written out byte by byte -/

/-- R205: SET_LIMITS with tag 12h, 40 ms, 100 ms, enabled. -/
theorem test_frame_setLimits :
    decodeFrame [0x02#8, 0x12#8, 0x28#8, 0x64#8, 0x01#8] false = .command 0x12#8 (.setLimits 0x28#8 0x64#8 0x01#8) := by
  decide

/-- R196, R205, R209: WINDOW_STAGE carries Low and High high byte first. -/
theorem test_frame_windowStage :
    decodeFrame [0x13#8, 0x07#8, 0x05#8, 0x01#8, 0x02#8, 0x03#8, 0x04#8, 0x03#8, 0x01#8] false =
      .command 0x07#8 (.windowStage 0x05#8 0x0102#16 0x0304#16 0x03#8 0x01#8) := by
  decide

/-- R205: CACHE_PROBE of segment 1, 50h, index 1234h; a missing byte makes it BAD_LENGTH. -/
theorem test_frame_cacheProbe :
    decodeFrame [0x31#8, 0x09#8, 0x01#8, 0x50#8, 0x12#8, 0x34#8] false =
      .command 0x09#8 (.cacheProbe 0x01#8 0x50#8 0x1234#16) ∧
    decodeFrame [0x31#8, 0x09#8, 0x01#8, 0x50#8, 0x12#8] false = .badLength 0x09#8 := by
  decide

/-- R185, R188, R189: the checks of a frame in their order. -/
theorem test_frame_checks :
    decodeFrame [] false = .empty ∧ decodeFrame [0xEE#8] false = .badLength 0x00#8 ∧
    decodeFrame [0xEE#8, 0x21#8, 0x00#8] false = .badCommand 0x21#8 ∧
    decodeFrame [0xEE#8, 0x21#8, 0x00#8] true = .badLength 0x21#8 := by
  decide

/-! ### The board of chapter 11, with two routes more -/

/-- Slot 0 of section 11.1. -/
def route0 : RouteEntry :=
  { valid := true, vaddr := 0x40#7, segment := 0, paddr := 0x50#7, width := .one, autoInc := true, mode := .posted, maxPost := 8,
    addrRetries := 3, retryGap := 10, defaultAccess := .none, winFirst := 0, winCount := 2, logDenials := true }

/-- Slot 1 of section 11.1. -/
def route1 : RouteEntry :=
  { valid := true, vaddr := 0x42#7, segment := 1, paddr := 0x48#7, width := .one, autoInc := true, mode := .pass, maxPost := 1,
    addrRetries := 0, retryGap := 1, defaultAccess := .none, winFirst := 2, winCount := 1, logDenials := false }

/-- A raw route. -/
def route2 : RouteEntry :=
  { route1 with vaddr := 0x43#7, segment := 2, paddr := 0x22#7, width := .raw, defaultAccess := .rw, winFirst := 0, winCount := 0 }

/-- A route of width 2 that may be read outside its windows. -/
def route3 : RouteEntry :=
  { route0 with vaddr := 0x44#7, segment := 3, paddr := 0x23#7, width := .two, maxPost := 1, defaultAccess := .ro, winCount := 0 }

/-- The tables of section 11.1 with the two routes more. -/
def tables : Tables :=
  { routes := (((Tables.cleared.routes.set 0 route0).set 1 route1).set 2 route2).set 3 route3,
    windows := ((Tables.cleared.windows.set 0 ⟨0x0000#16, 0x001F#16, .rw, true⟩).set 1 ⟨0x0020#16, 0x002F#16, .ro, false⟩).set 2
      ⟨0x0000#16, 0x00FF#16, .rw, false⟩ }

/-- The running part after a commit, every engine IDLE, an address byte expected. -/
def board : State :=
  { State.reset with
    power := .running, port := .upAddress, active := tables, staged := tables, generation := 1#16,
    runtime := Vector.replicate 32 { Runtime.reset with incarnation := 1#8 },
    engines := Vector.replicate 4 { Engine.reset with mode := .idle } }

/-- The board with one slot's Pointer KNOWN. -/
def boardAt (i : Slot) (p : Word16) : State := board.setPointer i (some p)

/-- The board with a routed sub-transaction open. -/
def opened (port : PortState) (c : Context) : State := { board with port := port, context := some c }

/-- The context of a write at an index. -/
def writeAt (i : Slot) (index : Option Word16) : Context :=
  { board.newContext i .write with
    index := index, follow := index.isSome, indexTaken := (tables.routes[i]).width.bytes }

/-- The context of a read at an index, from a source. -/
def readAt (i : Slot) (index : Option Word16) (source : Source) : Context :=
  { board.newContext i .read with index := index, follow := index.isSome, source := source }

/-- The step's state with one command waiting. -/
def after (c : Instr) (s : State) : State :=
  match step { s with pending := [c] } with
  | .next t => t
  | _ => s

/-- Both lines of every segment high. -/
def high : SegSamples := ⟨⟨true, true⟩, ⟨true, true⟩, ⟨true, true⟩, ⟨true, true⟩⟩

/-- A posted record of slot 0 at 04h. -/
def record : Record := { (writeAt 0 (some 0x04#16)).recordOf 0xA1#8 with state := .queued }

/-- Engine 0 delivering `record`. -/
def delivering (t : Transaction) : State :=
  { (board.setList 0 [{ record with state := .inFlight, attempts := 1 }]).setMode 0 (.busy t) with
    runtime := board.runtime.set 0 { faulted := false, pointer := some 0x05#16, pending := 1, incarnation := 1#8 } }

/-- The transaction of a record, its address byte sent. -/
def sent : Transaction := { Transaction.fresh .record 0#16 0#8 false with out := .byte 0xA0#8 }

/-- A pass-through write of EEh to slot 1 at 07h. -/
def writeRequest : Request :=
  { kind := .write, slot := 1, incarnation := 1#8, segment := 1, paddr := 0x48#7, width := .one, autoInc := true,
    index := some 0x07#16, firstByte := 0xEE#8 }

/-- An indexed read of slot 0 at 03h. -/
def readRequest : Request :=
  { kind := .indexedRead, slot := 0, incarnation := 1#8, segment := 0, paddr := 0x50#7, width := .one, autoInc := true,
    index := some 0x03#16, firstByte := 0#8 }

/-- A raw read of slot 2. -/
def rawRequest : Request :=
  { kind := .rawRead, slot := 2, incarnation := 1#8, segment := 2, paddr := 0x22#7, width := .raw, autoInc := true, index := none,
    firstByte := 0#8 }

/-- A pass-through write held at PASS_BYTE, engine 1 carrying it. -/
def writing (t : Transaction) : State :=
  (opened .upWrite { writeAt 1 (some 0x07#16) with request := .taken, hold := some ⟨.passByte, 30⟩ }).setMode 1 (.busy t)

/-- The transaction of `writeRequest` in a phase. -/
def writePhase (p : Phase) (position : Nat) (out : SegOut) : Transaction :=
  { Transaction.fresh (.request writeRequest) 0x07#16 0xEE#8 p.beforeAnswer with phase := p, position := position, out := out }

/-- A read of slot 0 held at a point, engine 0 carrying it. -/
def reading (point : Option HoldPoint) (t : Transaction) : State :=
  (opened (if point = some .readAddress then .upAddress else .upRead)
    { readAt 0 (some 0x03#16) .target with
      follow := decide (point ≠ some .readAddress), request := .taken, hold := point.map fun p => ⟨p, 30⟩ }).setMode 0 (.busy t)

/-- The transaction of `readRequest` in a phase. -/
def readPhase (p : Phase) (position : Nat) (out : SegOut) : Transaction :=
  { Transaction.fresh (.request readRequest) 0x03#16 0#8 false with phase := p, position := position, out := out }

/-- An entry of the log. -/
def entry : Entry :=
  { seqNumber := 0#16, kind := .postAddrNack, segment := some 1, slot := some (2, 3#8), paddr := some 0x60#7,
    index := .one 0x10#8, detailA := 3#8, detailB := 1#8, pass := false, record := false, superseded := false }

/-- The board outside any sub-transaction, with that entry in the log. -/
def logged : State := { board with port := .upIdle, log := [entry], nextSeq := 1#16 }

/-! ### One step of each command -/

/-- R181: the straps 01 make the MGA 71h; R182: the start-up interval begins. -/
theorem test_resetReleased :
    (after (.resetReleased false true) State.reset).mga = 0x71#7 ∧
    (after (.resetReleased false true) State.reset).power = .startup := by
  decide

/-- R203: the reset keeps the sampled MGA and clears the tables. -/
theorem test_resets :
    (after .powerOnReset { board with mga := 0x72#7 }).mga = 0x72#7 ∧
    (after .powerOnReset { board with mga := 0x72#7 }).active.routes[0] = RouteEntry.cleared ∧
    (after .resetAsserted logged).log = [] := by
  decide

/-- R182: the part runs at the end of the start-up interval. -/
theorem test_startupIntervalEnds : (after .startupIntervalEnds { State.reset with power := .startup }).power = .running := by
  decide

/-- R47: a START leads to UP_ADDRESS, in UP_IDLE and as Sr. -/
theorem test_starts :
    (after (.upstreamStart high) { board with port := .upIdle }).port = .upAddress ∧
    (after (.upstreamRepeatedStart high) { board with port := .upIgnore }).port = .upAddress := by
  decide

/-- Section 11.1 step 12: slot 0's write address is refused on a DISABLED segment, and logged with DetailA 01h and DetailB
00h. -/
theorem test_addressDecode_denied :
    (after (.addressDecode 0x40#7 .write) (board.setMode 0 .disabled)).answer = .nack ∧
    (after (.addressDecode 0x40#7 .write) (board.setMode 0 .disabled)).log.map (fun e => (e.kind, e.detailA, e.detailB)) =
      [(.accessDenied, 0x01#8, 0x00#8)] := by
  decide

/-- Section 11.2: the write address is acknowledged and leads to UP_INDEX. -/
theorem test_addressDecode_write :
    (after (.addressDecode 0x40#7 .write) board).answer = .ack ∧ (after (.addressDecode 0x40#7 .write) board).port = .upIndex := by
  decide

/-- Section 11.2: the index byte 04h makes the Pointer KNOWN 04h and leads to UP_WRITE. -/
theorem test_indexByte :
    (after (.indexByte 0x04#8) (opened .upIndex (board.newContext 0 .write))).port = .upWrite ∧
    ((after (.indexByte 0x04#8) (opened .upIndex (board.newContext 0 .write))).slotRuntime 0).pointer = some 0x04#16 := by
  decide

/-- Section 11.2: A1h at 04h takes a record at index 04h with length 1, and the Pointer moves to 05h. -/
theorem test_postedDataByte :
    ((after (.postedDataByte 0xA1#8) (opened .upWrite (writeAt 0 (some 0x04#16)))).openRecord.map fun r => (r.index, r.data)) =
      some (some 0x04#16, [0xA1#8]) ∧
    ((after (.postedDataByte 0xA1#8) (opened .upWrite (writeAt 0 (some 0x04#16)))).slotRuntime 0).pointer = some 0x05#16 := by
  decide

/-- R66: the first pass-through byte holds SCLU and gives the engine its request. -/
theorem test_passDataByte :
    (after (.passDataByte 0xEE#8) (opened .upWrite (writeAt 1 (some 0x07#16)))).scluHeld = true ∧
    ((after (.passDataByte 0xEE#8) (opened .upWrite (writeAt 1 (some 0x07#16)))).engine 1).mode.isBusy = true := by
  decide

/-- R192: past the three bytes of an empty response a management read sends FFh. -/
theorem test_readByteAnswer :
    (after (.readByteAnswer true) { board with port := .upMgmtRead, readPos := 2, sending := some 0#8 }).sending = some 0xFF#8 := by
  decide

/-- R184: the twenty-first byte of a management write is answered by NACK. -/
theorem test_mgmtWriteByte :
    (after (.mgmtWriteByte 0x55#8)
      { board with port := .upMgmtWrite, frame := .collecting, buffer := List.replicate 20 0#8 }).answer = .nack := by
  decide

/-- R185: the P executes the frame; section 11.1: COMMIT 0000h with an expected generation that is not the current one is
STALE and answers the current one. -/
theorem test_upstreamStop :
    (after (.upstreamStop high)
      { board with port := .upMgmtWrite, frame := .collecting, buffer := [0x15#8, 0x08#8, 0x00#8, 0x00#8] }).response =
      ⟨.stale, 0x08#8, [0x00#8, 0x01#8], .other⟩ := by
  decide

/-- R58, R206: an expired hold at READ_ADDRESS is a NACK, logged with reason TARGET and point READ_ADDRESS. -/
theorem test_holdLimitExpires :
    (after .holdLimitExpires (reading (some .readAddress) (readPhase .addressing 0 (.byte 0xA0#8)))).answer = .nack ∧
    (after .holdLimitExpires (reading (some .readAddress) (readPhase .addressing 0 (.byte 0xA0#8)))).log.map
      (fun e => (e.kind, e.detailA, e.detailB)) = [(.upHoldExpired, 0x04#8, 0x00#8)] := by
  decide

/-- R77, R206: an abandon in UP_ADDRESS is logged with DetailA 01h. -/
theorem test_idleLimitExpires :
    (after .idleLimitExpires board).port = .upIdle ∧
    (after .idleLimitExpires board).log.map (fun e => (e.kind, e.detailA)) = [(.upAbandoned, 0x01#8)] := by
  decide

/-- R114: 50h+W is A0h. -/
theorem test_downstreamStart :
    ((after (.downstreamStart 0) (delivering { sent with out := .released })).engine 0).mode = .busy sent := by
  decide

/-- R115: after the ACK of the address the index byte is sent; R91: after its refusal with attempts left the record is in
RETRY_WAIT at the P. -/
theorem test_downstreamAddressAnswer :
    ((after (.downstreamAddressAnswer 0 true) (delivering sent)).engine 0).mode =
      .busy { sent with phase := .indexing, position := 1, out := .byte 0x04#8 } ∧
    ((after (.downstreamStopMade 0) (delivering { sent with phase := .stopping, refused := true, out := .stop })).list 0).map
      (·.state) = [.retryWait] := by
  decide

/-- R115: after the index byte the first data byte is sent. -/
theorem test_downstreamIndexAnswer :
    ((after (.downstreamIndexAnswer 0 true)
      (delivering { sent with phase := .indexing, position := 1, out := .byte 0x04#8 })).engine 0).mode =
      .busy { sent with phase := .writing, position := 2, out := .byte 0xA1#8 } := by
  decide

/-- R66, R117: the target's ACK of a pass-through byte is mirrored upstream, and the engine waits in WRITE_WAIT. -/
theorem test_downstreamDataAnswer :
    (after (.downstreamDataAnswer 1 true) (writing (writePhase .writing 2 (.byte 0xEE#8)))).answer = .ack ∧
    ((after (.downstreamDataAnswer 1 true) (writing (writePhase .writing 2 (.byte 0xEE#8)))).engine 1).mode.sclHeld = true := by
  decide

/-- Section 11.2: 9Eh clocked in at 03h is sent upstream and allocated in the cache. -/
theorem test_downstreamByteReceived :
    (after (.downstreamByteReceived 0 0x9E#8) (reading (some .readByte) (readPhase .reading 1 .released))).sending = some 0x9E#8 ∧
    (after (.downstreamByteReceived 0 0x9E#8) (reading (some .readByte) (readPhase .reading 1 .released))).cache =
      [⟨⟨0, 0x50#7, 0x03#16⟩, 0x9E#8⟩] := by
  decide

/-- Section 11.2: P1 delivered leaves an empty list, Pending 0 and an IDLE engine. -/
theorem test_downstreamStopMade :
    (after (.downstreamStopMade 0) (delivering { sent with phase := .stopping, position := 2, out := .stop })).list 0 = [] ∧
    ((after (.downstreamStopMade 0) (delivering { sent with phase := .stopping, position := 2, out := .stop })).slotRuntime
      0).pending = 0 := by
  decide

/-- R92: the gap over, the record is taken again, and Attempts counts it. -/
theorem test_retryGapExpires :
    ((after (.retryGapExpires 0) (board.setList 0 [{ record with state := .retryWait, attempts := 1 }])).list 0).map
      (fun r => (r.state, r.attempts)) = [(.inFlight, 2)] := by
  decide

/-- R134, R93: a timeout of a record faults its route and logs the Position and the RECORD flag. -/
theorem test_segTimeout :
    ((after (.segTimeout 0 false) (delivering sent)).slotRuntime 0).faulted = true ∧
    (after (.segTimeout 0 false) (delivering sent)).log.map (fun e => (e.kind, e.detailA, e.record)) =
      [(.segTimeout, 0x00#8, true)] := by
  decide

/-- R132: a conflict takes the engine to RECOVERY. -/
theorem test_segConflict : ((after (.segConflict 0) (delivering sent)).engine 0).mode.value = 0x03#8 := by decide

/-- R140: a low SDA leads to the clock pulses, and the ninth one with SDA low is the end, logged with the cause 02h. -/
theorem test_recovery_pulses :
    ((after (.recoveryOpeningSample 0 false) (board.setMode 0 (.recovery ⟨.opening, 0, false⟩))).engine 0).mode =
      .recovery ⟨.pulse, 0, false⟩ ∧
    (after (.recoveryPulse 0 false) (board.setMode 0 (.recovery ⟨.pulse, 8, false⟩))).log.map
      (fun e => (e.kind, e.detailA, e.detailB)) = [(.segStuck, 0x02#8, 0x09#8)] := by
  decide

/-- R141, R140: the stop condition made ends the procedure in IDLE; SCL low ends it in STUCK. -/
theorem test_recovery_ends :
    ((after (.recoveryStopCondition 0 true) (board.setMode 0 (.recovery ⟨.stop, 1, false⟩))).engine 0).mode = .idle ∧
    ((after (.recoverySclLow 0) (board.setMode 0 (.recovery ⟨.stop, 1, false⟩))).engine 0).mode = .stuck := by
  decide

/-- R188, R189: the two completions of a frame that is no command. -/
theorem test_badFrames :
    (after (.badCommand 0x04#8 0x11#8) logged).response = ⟨.badCommand, 0x11#8, [], .other⟩ ∧
    (after (.badLength [0xEE#8] false) logged).response = ⟨.badLength, 0x00#8, [], .other⟩ := by
  decide

/-- R211: the payload of STATUS on the board with one entry. -/
theorem test_status :
    (after (.status 0x01#8) logged).response.payload =
      [0x00#8, 0x01#8, 0x00#8, 0x70#8, 0x01#8, 0x01#8, 0x01#8, 0x01#8, 0x00#8, 0x01#8, 0x00#8, 0x1E#8, 0x32#8, 0x01#8] := by
  decide

/-- R198: limits that cross are refused; R129: the warm restart empties a list. -/
theorem test_setLimits_warmRestart :
    (after (.setLimits 0x12#8 50#8 50#8 1#8) logged).response.code = .badValue ∧
    (after (.warmRestart 0x12#8 high) (delivering sent)).list 0 = [] := by
  decide

/-- Section 10.8: the example stages slot 5, and a reserved bit of Flags is BAD_VALUE. -/
theorem test_routeStage :
    (after (.routeStage 0x2A#8 0x05#8
      ⟨0x3A#8, 0x01#8, 0x51#8, 0x02#8, 0x01#8, 0x03#8, 0x08#8, 0x00#8, 0x01#8, 0x01#8, 0x0A#8, 0x03#8⟩) logged).staged.routes[5] =
      { valid := true, vaddr := 0x3A#7, segment := 1, paddr := 0x51#7, width := .two, autoInc := true, mode := .posted,
        maxPost := 8, addrRetries := 0, retryGap := 1, defaultAccess := .ro, winFirst := 10, winCount := 3,
        logDenials := true } ∧
    (after (.routeStage 0x2A#8 0x05#8
      ⟨0x3A#8, 0x01#8, 0x51#8, 0x02#8, 0x01#8, 0x07#8, 0x08#8, 0x00#8, 0x01#8, 0x01#8, 0x0A#8, 0x03#8⟩) logged).response =
      ⟨.badValue, 0x2A#8, [], .other⟩ := by
  decide

/-- R17, R19: unstaging leaves the active copy, and ABANDON restores the staged one. -/
theorem test_unstage_abandon :
    (after (.routeUnstage 0x01#8 0x00#8) logged).staged.routes[0] = RouteEntry.cleared ∧
    (after (.routeUnstage 0x01#8 0x00#8) logged).active.routes[0] = route0 ∧
    (after (.abandon 0x01#8) { logged with staged := Tables.cleared }).staged.routes[0] = route0 := by
  decide

/-- R208, R209: the images of slot 0 and of window 1. -/
theorem test_queries :
    (after (.routeQuery 0x01#8 0x00#8 0x00#8) logged).response.payload =
      [0x01#8, 0x40#8, 0x00#8, 0x50#8, 0x01#8, 0x01#8, 0x03#8, 0x08#8, 0x03#8, 0x0A#8, 0x00#8, 0x00#8, 0x02#8] ∧
    (after (.windowQuery 0x01#8 0x01#8 0x00#8) logged).response.payload =
      [0x00#8, 0x20#8, 0x00#8, 0x2F#8, 0x01#8, 0x00#8] := by
  decide

/-- R18: section 11.1 step 5 stages a High of 0100h. -/
theorem test_windowStage :
    (after (.windowStage 0x05#8 0x02#8 0x0000#16 0x0100#16 0x03#8 0x00#8) logged).staged.windows[2] =
      ⟨0x0000#16, 0x0100#16, .rw, false⟩ := by
  decide

/-- Section 11.1 steps 9 and 11: the COMMIT with window 2 too wide for slot 1 is INVALID, and the corrected one OK. -/
theorem test_commit :
    (after (.commit 0x08#8 0x0001#16)
      { logged with
        staged := { tables with windows := tables.windows.set 2 ⟨0x0000#16, 0x0100#16, .rw, false⟩ } }).response =
      ⟨.invalid, 0x08#8, [0x03#8, 0x01#8], .other⟩ ∧
    (after (.commit 0x0A#8 0x0001#16) logged).response = ⟨.ok, 0x0A#8, [0x00#8, 0x02#8], .other⟩ := by
  decide

/-- R21: flags 07h and the Pending of a FAULTED slot with a KNOWN pointer; R22: ROUTE_RESUME keeps the pointer. -/
theorem test_routeState :
    (after (.routeState 0x01#8 0x00#8)
      { logged with runtime := logged.runtime.set 0 ⟨true, some 0x05#16, 2, 1#8⟩ }).response.payload =
      [0x07#8, 0x00#8, 0x05#8, 0x02#8, 0x01#8] ∧
    (after (.routeResume 0x01#8 0x00#8)
      { logged with runtime := logged.runtime.set 0 ⟨true, some 0x05#16, 2, 1#8⟩ }).slotRuntime 0 =
      ⟨false, some 0x05#16, 2, 1#8⟩ := by
  decide

/-- Section 11.1: SEG_CONFIG is refused once an engine has left DISABLED, and SEG_ENABLE answers IDLE. -/
theorem test_segConfig_enable :
    (after (.segConfig 0x01#8 0x00#8 0x01#8 0x0A#8) logged).response.code = .busy ∧
    (after (.segConfig 0x01#8 0x00#8 0x01#8 0x0A#8) (logged.setMode 0 .disabled)).engine 0 = ⟨.disabled, .khz400, 10⟩ ∧
    (after (.segEnable 0x0B#8 0x00#8 ⟨true, true⟩) (logged.setMode 0 .disabled)).response.payload = [0x01#8] := by
  decide

/-- R127, R146: SEG_DISABLE of an IDLE engine without records, and SEG_RECOVER of an IDLE one. -/
theorem test_segDisable_recover :
    ((after (.segDisable 0x01#8 0x00#8 0x00#8) logged).engine 0).mode = .disabled ∧
    (after (.segRecover 0x01#8 0x00#8) logged).response = ⟨.pending, 0x01#8, [0x00#8], .recovering 0⟩ := by
  decide

/-- R163, R164: a probe answers value, place and count, and an invalidation the number of lines. -/
theorem test_cacheCommands :
    (after (.cacheProbe 0x01#8 0x00#8 0x50#8 0x0003#16) { logged with cache := [⟨⟨0, 0x50#7, 0x03#16⟩, 0x9E#8⟩] }).response =
      ⟨.ok, 0x01#8, [0x01#8, 0x9E#8, 0x00#8, 0x01#8], .other⟩ ∧
    (after (.cacheInvalidate 0x01#8 0x01#8 0x00#8) { logged with cache := [⟨⟨0, 0x50#7, 0x03#16⟩, 0x9E#8⟩] }).response =
      ⟨.ok, 0x01#8, [0x01#8], .other⟩ := by
  decide

/-- Section 10.8: the payload of LOG_READ for the entry of section 4.10. -/
theorem test_logRead :
    (after (.logRead 0x01#8 0x00#8) logged).response.payload =
      [0x00#8, 0x00#8, 0x01#8, 0x0F#8, 0x01#8, 0x02#8, 0x03#8, 0x60#8, 0x00#8, 0x10#8, 0x03#8, 0x01#8, 0x00#8, 0x01#8,
       0x00#8] := by
  decide

/-- Section 10.8: the release of that entry answers 01h, 00h, 00h and releases ALERT#. -/
theorem test_logRelease :
    (after (.logRelease 0x01#8 0x0000#16) logged).response.payload = [0x01#8, 0x00#8, 0x00#8] ∧
    logged.alertLow = true ∧ (after (.logRelease 0x01#8 0x0000#16) logged).alertLow = false := by
  decide

/-! ### Witnesses: the resets and the port -/

/-- The idle running part: a management command can execute. -/
def ready : State := { board with port := .upIdle }

theorem witness_ResetSequence :
    State.reset.power = .inReset ∧ { State.reset with power := .startup }.power = .startup := by
  decide

theorem witness_StartsAndIgnoredEnds :
    (ready.port = .upIdle ∧ ready.context = none ∧ ready.power ≠ .inReset) ∧
    ({ board with port := .upIgnore }.port = .upIgnore ∧ { board with port := .upIgnore }.context = none ∧
      { board with port := .upIgnore }.power ≠ .inReset) ∧
    { board with port := .upMgmtRead }.port = .upMgmtRead ∧ board.port = .upAddress ∧ board.context = none := by
  decide

/-- An address byte in the start-up interval; the addresses 07h and 78h; 41h, which no route claims; and the MGA 70h. -/
theorem witness_AddressNackedOrManagement :
    (board.port = .upAddress ∧ board.context = none) ∧ { board with power := .startup }.power ≠ .running ∧
    (0x07#7).toNat < 0x08 ∧ 0x78 ≤ (0x78#7).toNat ∧
    ((0x41#7 : Addr) ≠ board.mga ∧ ∀ i : Slot, ¬(board.active.routes[i].valid = true ∧ board.active.routes[i].vaddr = 0x41#7)) ∧
    board.power = .running ∧ reservedAddr board.mga = false := by
  decide

/-- A DISABLED segment; a FAULTED slot; a raw route whose default denies; an UNKNOWN pointer; a denied index. -/
theorem witness_RoutedAddressDenied :
    (board.Decides 0x40#7 ∧ board.Claims 0 0x40#7) ∧
    ((board.setMode 0 .disabled).Decides 0x40#7 ∧ (board.setMode 0 .disabled).Claims 0 0x40#7 ∧
      ((board.setMode 0 .disabled).engine 0).mode = .disabled) ∧
    ((board.setMode 0 .stuck).Decides 0x40#7 ∧ ((board.setMode 0 .stuck).engine 0).mode = .stuck) ∧
    ((board.setRuntime 0 ⟨true, none, 0, 1#8⟩).Decides 0x40#7 ∧ ((board.setRuntime 0 ⟨true, none, 0, 1#8⟩).slotRuntime 0).faulted = true) ∧
    (board.Decides 0x43#7 ∧ board.Claims 2 0x43#7 ∧ board.active.routes[2].width = .raw) ∧
    (let s := { board with active := { tables with routes := tables.routes.set 2 { route2 with defaultAccess := .wo } } }
     s.Decides 0x43#7 ∧ s.Claims 2 0x43#7 ∧ s.active.routes[2].width = .raw ∧
      s.active.routes[2].defaultAccess.allows .read = false) ∧
    (board.slotRuntime 0).pointer = none ∧
    ((boardAt 0 0x30#16).Decides 0x40#7 ∧ ((boardAt 0 0x30#16).slotRuntime 0).pointer = some 0x30#16 ∧
      (accessAt tables route0 0x30#16).reads = false) := by
  simp only [State.Decides, State.Claims]
  and_intros <;> decide

theorem witness_WriteAddressTaken :
    (board.Decides 0x40#7 ∧ board.Claims 0 0x40#7 ∧ (board.engine board.active.routes[0].segment).mode.outOfService = false ∧
      (board.slotRuntime 0).faulted = false ∧
      (board.active.routes[0].width = .raw → board.active.routes[0].defaultAccess.writes = true)) ∧
    (board.Decides 0x43#7 ∧ board.Claims 2 0x43#7 ∧ (board.engine board.active.routes[2].segment).mode.outOfService = false ∧
      (board.slotRuntime 2).faulted = false ∧
      (board.active.routes[2].width = .raw → board.active.routes[2].defaultAccess.writes = true)) := by
  simp only [State.Decides, State.Claims]
  decide

/-- A hit and a miss at 03h, at an IDLE engine, with and without a record for the target, and at a busy one, and the index 20h, which
is not cacheable. -/
theorem witness_ReadAddressDecided :
    let k : Key := ⟨0, 0x50#7, 0x03#16⟩
    let hit := { boardAt 0 0x03#16 with cache := [⟨k, 0x9E#8⟩] }
    let busy := (boardAt 0 0x03#16).setMode 0 (.recovery ⟨.opening, 0, false⟩)
    let behind := (boardAt 0 0x03#16).setList 0 [{ record with state := .retryWait }]
    ((boardAt 0 0x03#16).Decides 0x40#7 ∧ (boardAt 0 0x03#16).Claims 0 0x40#7 ∧
      ((boardAt 0 0x03#16).engine 0).mode.outOfService = false ∧ route0.width ≠ .raw ∧
      ((boardAt 0 0x03#16).slotRuntime 0).pointer = some 0x03#16 ∧ (accessAt tables route0 0x03#16).reads = true) ∧
    (hit.Decides 0x40#7 ∧ cacheableAt hit.active route0 0x03#16 = true ∧ lookup hit.cache k = some 0x9E#8) ∧
    (lookup (boardAt 0 0x03#16).cache k = none ∧ ((boardAt 0 0x03#16).engine 0).mode = .idle ∧
      (boardAt 0 0x03#16).anyNames 0 0x50#7 = false) ∧
    (busy.Decides 0x40#7 ∧ (busy.engine 0).mode.outOfService = false ∧ (busy.engine 0).mode ≠ .idle) ∧
    (behind.Decides 0x40#7 ∧ lookup behind.cache k = none ∧ (behind.engine 0).mode = .idle ∧ behind.anyNames 0 0x50#7 = true) ∧
    ((accessAt tables route0 0x20#16).reads = true ∧ cacheableAt tables route0 0x20#16 = false) := by
  simp only [State.Decides, State.Claims]
  decide

/-- A read of slot 0 that has sent 9Eh from the cache, and whose next index 04h misses. -/
def missing : State := { opened .upRead (readAt 0 (some 0x03#16) .cache) with sending := some 0x9E#8 }

/-- Reads at an IDLE engine, with and without a record for the target, at one in RECOVERY and at one in STUCK. -/
theorem witness_TargetReadsRequested :
    (board.Decides 0x43#7 ∧ board.Claims 2 0x43#7 ∧ (board.engine 2).mode.outOfService = false ∧ route2.width = .raw ∧
      route2.defaultAccess.reads = true ∧ (board.engine 2).mode = .idle ∧ board.anyNames 2 0x22#7 = false) ∧
    ((board.setMode 2 (.recovery ⟨.opening, 0, false⟩)).Decides 0x43#7 ∧
      ((board.setMode 2 (.recovery ⟨.opening, 0, false⟩)).engine 2).mode ≠ .idle) ∧
    (let behind := board.setList 2 [{ record with segment := 2, paddr := 0x22#7, state := .retryWait }]
     behind.Decides 0x43#7 ∧ (behind.engine 2).mode = .idle ∧ behind.anyNames 2 0x22#7 = true) ∧
    (let behind := missing.setList 0 [{ record with state := .retryWait }]
     behind.Reads (readAt 0 (some 0x03#16) .cache) .cache ∧ (behind.engine 0).mode = .idle ∧ behind.anyNames 0 0x50#7 = true) ∧
    (missing.Reads (readAt 0 (some 0x03#16) .cache) .cache ∧ route0.width ≠ .raw ∧
      (readAt 0 (some 0x03#16) .cache).counted.index = some 0x04#16 ∧
      byteAllowed missing.active route0 .read (some 0x04#16) = true ∧
      lookup missing.cache ((readAt 0 (some 0x03#16) .cache).key 0x04#16) = none) ∧
    ((missing.engine 0).mode = .idle ∧ missing.anyNames 0 0x50#7 = false) ∧
    ((missing.setMode 0 (.recovery ⟨.opening, 0, false⟩)).Reads (readAt 0 (some 0x03#16) .cache) .cache ∧
      ((missing.setMode 0 (.recovery ⟨.opening, 0, false⟩)).engine 0).mode ≠ .idle ∧
      ((missing.setMode 0 (.recovery ⟨.opening, 0, false⟩)).engine 0).mode ≠ .stuck) ∧
    ((missing.setMode 0 .stuck).Reads (readAt 0 (some 0x03#16) .cache) .cache ∧
      ((missing.setMode 0 .stuck).engine 0).mode = .stuck) := by
  simp only [State.Decides, State.Claims, State.Reads]
  and_intros <;> decide

theorem witness_IndexBytesAbsorbed :
    (let c := board.newContext 0 .write
     (opened .upIndex c).context = some c ∧ (opened .upIndex c).port = .upIndex ∧ c.route.width = .one ∧ c.indexTaken = 0) ∧
    (let c := board.newContext 3 .write
     (opened .upIndex c).context = some c ∧ (opened .upIndex c).port = .upIndex ∧ c.route.width = .two ∧ c.indexTaken = 0) ∧
    (let c := { board.newContext 3 .write with indexTaken := 1, indexHigh := 0x12#8 }
     (opened .upIndex c).context = some c ∧ (opened .upIndex c).port = .upIndex ∧ c.route.width = .two ∧ c.indexTaken = 1) := by
  decide

/-- A first byte; one appended to a record of 7; one refused at 8; and one held with 48 records in use. -/
theorem witness_PostedBytesTaken :
    let c := writeAt 0 (some 0x04#16)
    let long (n : Nat) := { opened .upWrite c with openRecord := some { c.recordOf 0#8 with data := List.replicate n 0#8 } }
    let full := (opened .upWrite c).setList 3 (List.replicate 48 record)
    ((opened .upWrite c).Writes c .posted ∧ byteAllowed (opened .upWrite c).active c.route .write c.index = true ∧
      (opened .upWrite c).openRecord = none ∧ (opened .upWrite c).inUse < 48) ∧
    ((long 7).Writes c .posted ∧ 7 < c.route.maxPost) ∧ ((long 8).Writes c .posted ∧ ¬8 < c.route.maxPost) ∧
    (full.Writes c .posted ∧ full.inUse = 48) ∧
    (((opened .upWrite c).setMode 0 .stuck).Writes c .posted ∧ (((opened .upWrite c).setMode 0 .stuck).engine 0).mode = .stuck) := by
  simp only [State.Writes]
  decide

/-- A first byte at an IDLE engine, with and without a record for the target, at one in RECOVERY and at a DISABLED one, and a later
byte that the engine waits for. -/
theorem witness_PassBytesHanded :
    let c := writeAt 1 (some 0x07#16)
    let t := writePhase .writeWait 2 .released
    let later := (opened .upWrite { c with request := .taken }).setMode 1 (.busy t)
    ((opened .upWrite c).Writes c .pass ∧ byteAllowed (opened .upWrite c).active c.route .write c.index = true ∧
      c.request = .absent ∧ ((opened .upWrite c).engine 1).mode = .idle ∧ (opened .upWrite c).anyNames 1 0x48#7 = false) ∧
    (let behind := (opened .upWrite c).setList 1 [{ record with segment := 1, paddr := 0x48#7, state := .retryWait }]
     behind.Writes c .pass ∧ (behind.engine 1).mode = .idle ∧ behind.anyNames 1 0x48#7 = true) ∧
    (let busy := (opened .upWrite c).setMode 1 (.recovery ⟨.opening, 0, false⟩)
     busy.Writes c .pass ∧ (busy.engine 1).mode ≠ .idle ∧ (busy.engine 1).mode ≠ .disabled ∧ (busy.engine 1).mode ≠ .stuck) ∧
    (((opened .upWrite c).setMode 1 .disabled).Writes c .pass ∧ (((opened .upWrite c).setMode 1 .disabled).engine 1).mode = .disabled) ∧
    (later.Writes { c with request := .taken } .pass ∧ later.Carries 1 t ∧ t.phase = .writeWait) := by
  simp only [State.Writes, State.Carries]
  decide

/-- A denied byte at 20h on slot 0, posted, without a record and as byte MaxPost + 1; a byte of a refused write, passed through on
slot 1; and a denied one there, with the engine in WRITE_WAIT. -/
theorem witness_WriteBytesRefused :
    let c := writeAt 0 (some 0x20#16)
    let r := (writeAt 0 (some 0x04#16)).recordOf 0#8
    let full := { opened .upWrite c with openRecord := some { r with data := List.replicate 8 0#8 } }
    let d := { writeAt 1 (some 0x07#16) with refusing := true }
    let e := { writeAt 1 (some 0x07#16) with route := { route1 with winCount := 0 }, request := .taken }
    let t := writePhase .writeWait 2 .released
    let later := (opened .upWrite e).setMode 1 (.busy t)
    ((opened .upWrite c).context = some c ∧ (opened .upWrite c).port = .upWrite ∧ c.route.mode = .posted ∧ c.hold = none ∧
      c.refusing = false ∧ c.request ≠ .taken ∧ byteAllowed (opened .upWrite c).active c.route .write c.index = false) ∧
    (full.context = some c ∧ full.port = .upWrite ∧ c.route.maxPost = 8) ∧
    ((opened .upWrite d).context = some d ∧ (opened .upWrite d).port = .upWrite ∧ d.route.mode = .pass ∧ d.hold = none ∧
      d.refusing = true) ∧
    (later.context = some e ∧ later.port = .upWrite ∧ e.route.mode = .pass ∧ e.hold = none ∧ e.refusing = false ∧
      e.request = .taken ∧ later.CarriesRequest e.route.segment t writeRequest ∧
      byteAllowed later.active e.route .write e.index = false) := by
  simp only [State.CarriesRequest, State.Carries]
  decide

/-- A byte from the cache followed by a hit at 04h; one at 2Fh followed by a denied index, logged on slot 0; and a filler byte. -/
theorem witness_ReadAnswersFromCache :
    let c := readAt 0 (some 0x03#16) .cache
    let hit := { missing with cache := [⟨c.key 0x04#16, 0xA1#8⟩] }
    let d := readAt 0 (some 0x2F#16) .cache
    let last := { opened .upRead d with sending := some 0#8 }
    let f := readAt 0 (some 0x03#16) .filler
    (hit.Reads c .cache ∧ byteAllowed hit.active c.route .read c.counted.index = true ∧
      cacheableAt hit.active c.route (c.counted.index.getD 0#16) = true ∧
      lookup hit.cache (c.key (c.counted.index.getD 0#16)) = some 0xA1#8) ∧
    (last.Reads d .cache ∧ byteAllowed last.active d.route .read d.counted.index = false ∧
      last.active.routes[d.slot].logDenials = true ∧ d.denialLogged = false) ∧
    ({ opened .upRead f with sending := some 0xFF#8 }.Reads f .filler) := by
  simp only [State.Reads]
  decide

/-- A byte from the target followed by an allowed one, and one at 2Fh followed by a denied one. -/
theorem witness_ReadAnswersFromTarget :
    let c := { readAt 0 (some 0x03#16) .target with request := .taken }
    let d := { c with index := some 0x2F#16 }
    let t := readPhase .ackHold 1 .released
    let s := { reading none t with sending := some 0x9E#8 }
    let last := { s with context := some d }
    (s.Reads c .target ∧ s.Carries c.route.segment t ∧ t.work = .request readRequest ∧ t.phase = .ackHold ∧
      byteAllowed s.active c.route .read c.counted.index = true) ∧
    (last.Reads d .target ∧ last.Carries d.route.segment t ∧ byteAllowed last.active d.route .read d.counted.index = false) := by
  simp only [State.Reads, State.Carries]
  decide

/-- The twentieth byte, the twenty-first and one in OVERRUN; a management read. -/
theorem witness_ManagementBytes :
    let s (n : Nat) (f : FrameState) := { board with port := .upMgmtWrite, frame := f, buffer := List.replicate n 0#8 }
    ((s 19 .collecting).port = .upMgmtWrite ∧ (s 19 .collecting).frame = .collecting ∧ (s 19 .collecting).buffer.length < 20) ∧
    ((s 20 .collecting).frame = .collecting ∧ 20 ≤ (s 20 .collecting).buffer.length) ∧ (s 20 .overrun).frame = .overrun ∧
    ({ board with port := .upMgmtRead, sending := some 0#8 }.port = .upMgmtRead ∧
      { board with port := .upMgmtRead, sending := some 0#8 }.sending.isSome = true) := by
  decide

/-! ### Witnesses: the management unit -/

/-- The P of a SEG_ENABLE frame of segment 3. -/
theorem witness_StopExecutesFrame :
    let s := { board with port := .upMgmtWrite, frame := .collecting, buffer := [0x21#8, 0x0B#8, 0x03#8] }
    s.Ready ∧ s.port = .upMgmtWrite ∧ s.frame = .collecting ∧ s.buffer = encodeFrame 0x0B#8 (.segEnable 0x03#8) ∧
      ∀ (b : Byte) (g : Seg), MgmtCommand.segEnable 0x03#8 = .segEnable b → b.toNat = g.val → levelOf high g = ⟨true, true⟩ := by
  refine ⟨by unfold State.Ready; decide, by decide, by decide, by decide, ?_⟩
  intro b g _ _
  exact (by decide : ∀ g : Seg, levelOf high g = ⟨true, true⟩) g

/-- A frame of each kind: one operand short and one too many for SEG_ENABLE, whose count is one. -/
theorem witness_FrameChecks :
    let s (f : FrameState) (l : List Byte) := { board with port := .upMgmtWrite, frame := f, buffer := l }
    ((s .collecting []).Ready ∧ (s .collecting []).port = .upMgmtWrite ∧ (s .collecting [0xEE#8]).buffer = [0xEE#8]) ∧
    ((s .overrun (0x21#8 :: 0x0B#8 :: List.replicate 18 0#8)).frame = .overrun) ∧
    (operandLength 0x04#8 = none) ∧
    (operandLength 0x21#8 = some 1 ∧ ([] : List Byte).length ≠ 1 ∧ [0#8, 0#8].length ≠ 1) ∧ ready.Ready := by
  simp only [State.Ready]
  decide

/-- SET_LIMITS at the ends of its ranges, and with limits that are equal. -/
theorem witness_StatusAndLimits :
    ready.Ready ∧ (2 ≤ (2#8).toNat ∧ (100#8).toNat ≤ 100 ∧ 10 ≤ (10#8).toNat ∧ (250#8).toNat ≤ 250 ∧ (1#8).toNat ≤ 1 ∧
      (100#8).toNat < (250#8).toNat) ∧ ¬(50#8).toNat < (50#8).toNat := by
  simp only [State.Ready]
  decide

/-- A withdrawn write byte on segment 1 that is not answered yet, and a record on segment 0. -/
def owing : State :=
  ({ ready with cache := [⟨⟨1, 0x48#7, 0x07#16⟩, 0x11#8⟩] }.setList 0 [{ record with state := .retryWait }]).setMode 1
    (.busy { writePhase .writing 2 (.byte 0xEE#8) with work := .detached writeRequest, entryOwed := true })

/-- R124, R129, R174, R206: the owed entry comes first, its line goes, and the discard follows. -/
theorem test_warmRestart_owed :
    (after (.warmRestart 0x01#8 high) owing).log.map (fun e => (e.kind, e.detailA, e.detailB)) =
      [(.upHoldExpired, 0x04#8, 0x01#8), (.recordsDiscarded, 0x03#8, 0x01#8)] ∧
    (after (.segDisable 0x01#8 0x01#8 0x01#8) owing).log.map (fun e => (e.kind, e.detailA, e.detailB)) =
      [(.upHoldExpired, 0x04#8, 0x01#8)] ∧
    (after (.segDisable 0x01#8 0x01#8 0x01#8) owing).cache = [] := by
  decide

theorem witness_WarmRestartClears : ready.Ready ∧ owing.Ready := by
  simp only [State.Ready]
  decide

/-- The image of slot 0 into slot 31; an image with a reserved flag, which no entry has; slot 32. -/
theorem witness_RouteStageWrites :
    (ready.Ready ∧ (31#8).toNat = (31 : Slot).val ∧ route0.Ok ∧
      routePayload route0 =
        [0x01#8, 0x40#8, 0x00#8, 0x50#8, 0x01#8, 0x01#8, 0x03#8, 0x08#8, 0x03#8, 0x0A#8, 0x00#8, 0x00#8, 0x02#8]) ∧
    ((31#8).toNat < 32 ∧ ¬∃ e : RouteEntry, e.Ok ∧ routePayload e =
        [0x01#8, 0x40#8, 0x00#8, 0x50#8, 0x01#8, 0x01#8, 0x07#8, 0x08#8, 0x03#8, 0x0A#8, 0x00#8, 0x00#8, 0x02#8]) ∧
    32 ≤ (32#8).toNat := by
  refine ⟨by simp only [State.Ready, RouteEntry.Ok]; decide, ⟨by decide, ?_⟩, by decide⟩
  rintro ⟨⟨valid, vaddr, segment, paddr, width, autoInc, mode, maxPost, addrRetries, retryGap, access, first, count, log⟩, -, h⟩
  simp only [routePayload, List.cons.injEq] at h
  have h := h.2.2.2.2.2.2.1
  cases autoInc <;> cases log <;> simp [routeFlags, byteOf] at h

theorem witness_RouteUnstageClears :
    (ready.Ready ∧ (31#8).toNat = (31 : Slot).val) ∧ 32 ≤ (32#8).toNat := by
  simp only [State.Ready]
  decide

/-- Window 63 with one index; a High below its Low, the access 4 and the cacheable byte 2; window 64. -/
theorem witness_WindowStageWrites :
    (ready.Ready ∧ (63#8).toNat = (63 : Win).val ∧ Access.rw.value = 0x03#8 ∧ (if true then 0x01#8 else 0x00#8) = 0x01#8 ∧
      (0x10#16).toNat ≤ (0x10#16).toNat) ∧
    ((63#8).toNat < 64 ∧ (0x0F#16).toNat < (0x10#16).toNat ∧ 4 ≤ (4#8).toNat ∧ 2 ≤ (2#8).toNat) ∧ 64 ≤ (64#8).toNat := by
  simp only [State.Ready]
  decide

theorem witness_TableQueriesAnswer :
    (ready.Ready ∧ (31#8).toNat = (31 : Slot).val ∧ (1#8).toNat ≤ 1) ∧ ((31#8).toNat < 32 ∧ 2 ≤ (2#8).toNat) ∧
    32 ≤ (32#8).toNat ∧ (63#8).toNat = (63 : Win).val ∧ (63#8).toNat < 64 ∧ 64 ≤ (64#8).toNat := by
  simp only [State.Ready]
  decide

/-- The board of chapter 11 with window 2 too wide: slot 1 is the first that fails. -/
theorem witness_CommitRefused :
    let s := { ready with staged := { tables with windows := tables.windows.set 2 ⟨0x0000#16, 0x0100#16, .rw, false⟩ } }
    (s.Ready ∧ (0x0000#16 : Word16) ≠ s.generation) ∧
    (0x0001#16 = s.generation ∧ ¬s.staged.Passes s.mga 1 ∧ ∀ j : Slot, j < 1 → s.staged.Passes s.mga j) := by
  simp only [State.Ready, Tables.Passes]
  and_intros <;> decide

theorem witness_CommitActivates : ready.Ready ∧ ∀ i : Slot, ready.staged.Passes ready.mga i := by
  simp only [State.Ready, Tables.Passes]
  decide

theorem witness_AbandonStateResume : (ready.Ready ∧ (31#8).toNat = (31 : Slot).val) ∧ 32 ≤ (32#8).toNat := by
  simp only [State.Ready]
  decide

/-- Segments 3 and 4, the speed 3, the timeouts 0, 1, 100 and 101, and the engine states that decide SEG_DISABLE. -/
theorem witness_SegConfigAndDisable :
    (ready.Ready ∧ 4 ≤ (4#8).toNat ∧ (3#8).toNat = (3 : Seg).val ∧ 3 ≤ (3#8).toNat ∧ (0#8).toNat = 0 ∧ 100 < (101#8).toNat) ∧
    ((2#8).toNat < 3 ∧ 1 ≤ (1#8).toNat ∧ (100#8).toNat ≤ 100 ∧ (ready.engine 3).mode ≠ .disabled) ∧
    ((ready.setMode 3 .disabled).Ready ∧ ((ready.setMode 3 .disabled).engine 3).mode = .disabled) ∧
    ((1#8).toNat ≤ 1 ∧ 2 ≤ (2#8).toNat ∧ (ready.engine 3).mode = .idle ∧ ∀ r ∈ ready.records, r.segment ≠ 3) ∧
    ((ready.setMode 3 .stuck).Ready ∧ ((ready.setMode 3 .stuck).engine 3).mode = .stuck) ∧
    ({ delivering sent with port := .upIdle }.Ready ∧ (0#8).toNat = (0 : Seg).val ∧
      ({ delivering sent with port := .upIdle }.engine 0).mode ≠ .disabled ∧
      ({ delivering sent with port := .upIdle }.engine 0).mode ≠ .stuck ∧
      ({ delivering sent with port := .upIdle }.engine 0).mode ≠ .idle) := by
  simp only [State.Ready]
  decide

theorem witness_SegEnableAndRecover :
    (ready.Ready ∧ 4 ≤ (4#8).toNat ∧ (3#8).toNat = (3 : Seg).val ∧ (ready.engine 3).mode ≠ .disabled ∧ (ready.engine 3).mode = .idle) ∧
    ((ready.setMode 3 .disabled).Ready ∧ ((ready.setMode 3 .disabled).engine 3).mode = .disabled ∧
      ((ready.setMode 3 .disabled).engine 3).mode ≠ .idle ∧ ((ready.setMode 3 .disabled).engine 3).mode ≠ .stuck) ∧
    ((ready.setMode 3 .stuck).Ready ∧ ((ready.setMode 3 .stuck).engine 3).mode = .stuck) := by
  simp only [State.Ready]
  decide

/-- A record being delivered, a withdrawn write byte, an IDLE engine with a record, and a procedure. -/
theorem witness_SegDisableForces :
    let s := { delivering sent with port := .upIdle }
    (s.Ready ∧ (s.engine 0).mode ≠ .disabled ∧ (s.engine 0).mode ≠ .stuck ∧ (s.engine 0).mode ≠ .idle) ∧
    (owing.Ready ∧ (owing.engine 1).mode ≠ .disabled ∧ (owing.engine 1).mode ≠ .stuck ∧ (owing.engine 1).mode ≠ .idle) ∧
    ((owing.engine 0).mode = .idle ∧ ∃ r ∈ owing.records, r.segment = 0) ∧
    (let p := ready.setMode 0 (.recovery ⟨.pulse, 3, true⟩)
     p.Ready ∧ (p.engine 0).mode ≠ .disabled ∧ (p.engine 0).mode ≠ .stuck ∧ (p.engine 0).mode ≠ .idle) := by
  simp only [State.Ready]
  decide

/-- The line of 03h is first in the cache, that of 04h second, and 05h has none; the addresses 07h, 08h, 77h and 78h. -/
theorem witness_CacheCommandsAnswer :
    let k (i : Word16) : Key := ⟨0, 0x50#7, i⟩
    let s := { ready with cache := [⟨k 0x03#16, 0x9E#8⟩, ⟨k 0x04#16, 0xA1#8⟩] }
    (s.Ready ∧ (0#8).toNat = (0 : Slot).val ∧ s.active.routes[0].valid = true ∧ 2 ≤ (2#8).toNat) ∧
    (∀ i : Slot, (31#8).toNat = i.val → s.active.routes[i].valid = false) ∧
    (4 ≤ (4#8).toNat ∧ (0x07#8).toNat < 0x08 ∧ 0x78 ≤ (0x78#8).toNat) ∧
    (0x08 ≤ (0x08#7).toNat ∧ (0x77#7).toNat < 0x78 ∧ 0x77#8 = (0x77#7).setWidth 8 ∧ 0x50#8 = (0x50#7).setWidth 8) ∧
    s.cache[1]? = some ⟨k 0x04#16, 0xA1#8⟩ ∧ (∀ m, m < 1 → ∀ l ∈ s.cache[m]?, l.key ≠ k 0x04#16) ∧
    ∀ l ∈ s.cache, l.key ≠ k 0x05#16 := by
  simp only [State.Ready]
  decide

theorem witness_LogCommandsAnswer :
    (logged.Ready ∧ logged.log[(0#8).toNat]? = some entry ∧ logged.log.length ≤ (1#8).toNat) ∧
    (logged.log = [] ++ entry :: [] ∧ entry.seqNumber = 0#16 ∧ ∀ x ∈ ([] : List Entry), x.seqNumber ≠ 0#16) ∧
    (let two := { logged with log := [entry, { entry with seqNumber := 1#16 }], nextSeq := 2#16 }
     two.Ready ∧ two.log = [] ++ entry :: [{ entry with seqNumber := 1#16 }]) ∧
    ∀ x ∈ logged.log, x.seqNumber ≠ 1#16 := by
  simp only [State.Ready]
  decide

/-! ### Witnesses: the ends of a sub-transaction, the pool and the arbiter -/

/-- A posted write with an OPEN record, at an IDLE engine and at one in RECOVERY; an index byte missing; a read carried. -/
theorem witness_SubTransactionEnds :
    let c := writeAt 0 (some 0x05#16)
    let r := (writeAt 0 (some 0x04#16)).recordOf 0xA1#8
    let s := { opened .upWrite c with openRecord := some r }
    let d := { board.newContext 3 .write with indexTaken := 1, indexHigh := 0x12#8 }
    let e := { readAt 0 (some 0x03#16) .target with request := .taken }
    let t := readPhase .ackHold 1 .released
    (s.context = some c ∧ s.port = .upWrite ∧ s.power ≠ .inReset ∧ c.hold = none ∧ c.request = .absent ∧ s.openRecord = some r ∧
      (s.engine r.segment).mode = .idle ∧ s.list r.segment = []) ∧
    ((s.setMode 0 (.recovery ⟨.opening, 0, false⟩)).openRecord = some r ∧
      ((s.setMode 0 (.recovery ⟨.opening, 0, false⟩)).engine r.segment).mode ≠ .idle) ∧
    ((opened .upIndex d).context = some d ∧ (opened .upIndex d).port = .upIndex ∧ (opened .upIndex d).power ≠ .inReset ∧
      d.hold = none ∧ (opened .upIndex d).openRecord = none ∧ d.request = .absent ∧ d.indexTaken = 1) ∧
    ((reading none t).context = some e ∧ (reading none t).port = .upRead ∧ e.hold = none ∧ (reading none t).openRecord = none ∧
      e.request = .taken ∧ (reading none t).CarriesRequest e.route.segment t readRequest) := by
  simp only [State.CarriesRequest, State.Carries]
  decide

/-- Holds at PASS_BYTE, READ_ADDRESS (S not made yet) and READ_BYTE with the request TAKEN, at POST_BYTE, and at READ_ADDRESS with it
WAITING. -/
theorem witness_HoldExpires :
    let c := { writeAt 1 (some 0x07#16) with request := .taken, hold := some ⟨.passByte, 30⟩ }
    let t := writePhase .addressing 0 (.byte 0x90#8)
    let u := readPhase .addressing 0 .released
    let v := readPhase .reading 1 .released
    let taken (p : HoldPoint) :=
      { readAt 0 (some 0x03#16) .target with follow := decide (p ≠ .readAddress), request := .taken, hold := some ⟨p, 30⟩ }
    let d := { writeAt 0 (some 0x04#16) with hold := some ⟨.postByte, 30⟩ }
    let e := { readAt 0 (some 0x03#16) .target with request := .waiting readRequest, hold := some ⟨.readAddress, 30⟩ }
    ((writing t).context = some c ∧ c.hold = some ⟨.passByte, 30⟩ ∧ c.request = .taken ∧
      (writing t).CarriesRequest c.route.segment t writeRequest) ∧
    ((reading (some .readAddress) u).context = some (taken .readAddress) ∧
      (reading (some .readAddress) u).CarriesRequest 0 u readRequest) ∧
    ((reading (some .readByte) v).context = some (taken .readByte) ∧
      (reading (some .readByte) v).CarriesRequest 0 v readRequest) ∧
    ((opened .upWrite d).context = some d ∧ d.hold = some ⟨.postByte, 30⟩ ∧ d.request ≠ .taken) ∧
    ((opened .upAddress e).context = some e ∧ e.hold = some ⟨.readAddress, 30⟩ ∧ e.request ≠ .taken) := by
  simp only [State.CarriesRequest, State.Carries]
  decide

theorem witness_IdleExpires :
    (board.context = none ∧ board.port = .upAddress ∧ { board with port := .upIgnore }.port = .upIgnore ∧
      { board with port := .upMgmtRead }.port = .upMgmtRead ∧ { board with port := .upMgmtWrite }.port = .upMgmtWrite) ∧
    (let c := writeAt 0 (some 0x04#16)
     (opened .upWrite c).context = some c ∧ c.hold = none ∧ (opened .upWrite c).port = .upWrite ∧ c.request = .absent) ∧
    (let e := { readAt 0 (some 0x03#16) .target with request := .taken }
     let t := readPhase .ackHold 1 .released
     (reading none t).context = some e ∧ e.hold = none ∧ (reading none t).port = .upRead ∧ e.request = .taken ∧
      (reading none t).CarriesRequest e.route.segment t readRequest) := by
  simp only [State.CarriesRequest, State.Carries]
  decide

/-- A byte waiting with 47 and with 48 records in use; a WAITING request, free and behind a record; a QUEUED head and none. -/
theorem witness_GrantAndArbiter :
    let c := { writeAt 0 (some 0x04#16) with hold := some ⟨.postByte, 30⟩ }
    let held (n : Nat) := { opened .upWrite c with recordRequest := some 0xA1#8 }.setList 3 (List.replicate n record)
    let e := { readAt 0 (some 0x03#16) .target with request := .waiting readRequest, hold := some ⟨.readAddress, 30⟩ }
    let waits := opened .upAddress e
    ((held 47).recordRequest = some 0xA1#8 ∧ (held 47).context = some c ∧ (held 47).inUse = 47) ∧ (held 48).inUse = 48 ∧
    board.recordRequest = none ∧
    ((waits.engine 0).mode = .idle ∧ waits.context = some e ∧ e.request = .waiting readRequest ∧ readRequest.segment = 0 ∧
      ∀ x ∈ waits.records, ¬(x.segment = 0 ∧ x.paddr = readRequest.paddr)) ∧
    (((waits.setList 0 [record]).engine 0).mode = .idle ∧ (∃ x ∈ (waits.setList 0 [record]).records, x.segment = 0 ∧ x.paddr = 0x50#7) ∧
      (waits.setList 0 [record]).list 0 = [record] ∧ record.state = .queued) ∧
    ((board.engine 0).mode = .idle ∧ board.context = none ∧ ∀ h ∈ (board.list 0).head?, h.state ≠ .queued) ∧
    ((delivering sent).engine 0).mode ≠ .idle := by
  decide

/-! ### Witnesses: the segment engines -/

/-- The head record that `delivering` has under way. -/
def head : Record := { record with state := .inFlight, attempts := 1 }

/-- A transaction whose request the port has withdrawn. -/
def withdrawn (r : Request) (t : Transaction) : State :=
  { board with engines := board.engines.set r.segment { Engine.reset with mode := .busy { t with work := .detached r } } }

theorem witness_StartSendsAddress :
    let t := { sent with out := .released }
    let w := writePhase .addressing 0 .released
    let raw := Transaction.fresh (.detached rawRequest) 0#16 0#8 false
    ((delivering t).Carries 0 t ∧ t.phase = .addressing ∧ t.out = .released ∧ t.work = .record ∧ (delivering t).list 0 = [head]) ∧
    ((writing w).Carries 1 w ∧ w.phase = .addressing ∧ w.out = .released ∧ w.work = .request writeRequest) ∧
    ((withdrawn rawRequest raw).Carries 2 raw ∧ raw.phase = .addressing ∧ raw.out = .released ∧ raw.work = .detached rawRequest) := by
  simp only [State.Carries]
  decide

/-- The answers to the address, to the index byte and to the last data byte. -/
theorem witness_RecordBytesAnswered :
    let t1 := { sent with phase := .indexing, position := 1, out := .byte 0x04#8 }
    let t2 := { sent with phase := .writing, position := 2, out := .byte 0xA1#8 }
    ((delivering sent).CarriesRecord 0 sent head [] ∧ (delivering sent).Answers 0 sent true (.downstreamAddressAnswer 0 true) ∧
      sent.phase ≠ .restarting) ∧
    ((delivering t1).CarriesRecord 0 t1 head [] ∧ (delivering t1).Answers 0 t1 false (.downstreamIndexAnswer 0 false)) ∧
    ((delivering t2).CarriesRecord 0 t2 head [] ∧ (delivering t2).Answers 0 t2 true (.downstreamDataAnswer 0 true)) := by
  simp only [State.CarriesRecord, State.Answers, State.Carries]
  decide

theorem witness_WriteRequestAnswered :
    let c := { writeAt 1 (some 0x07#16) with request := .taken, hold := some ⟨.passByte, 30⟩ }
    let t0 := writePhase .addressing 0 (.byte 0x90#8)
    let t1 := writePhase .indexing 1 (.byte 0x07#8)
    let t2 := writePhase .writing 2 (.byte 0xEE#8)
    ((writing t0).CarriesRequest 1 t0 writeRequest ∧ writeRequest.kind = .write ∧ t0.phase ≠ .restarting ∧
      (writing t0).context = some c ∧ c.hold = some ⟨.passByte, 30⟩ ∧ t0.phase ≠ .writing ∧
      (writing t0).Answers 1 t0 true (.downstreamAddressAnswer 1 true) ∧
      (writeRequest.width.bytesOf (writeRequest.index.getD 0#16) ++ [writeRequest.firstByte])[t0.position]? = some 0x07#8) ∧
    ((writing t1).Answers 1 t1 true (.downstreamIndexAnswer 1 true) ∧
      (writeRequest.width.bytesOf (writeRequest.index.getD 0#16) ++ [writeRequest.firstByte])[t1.position]? = some 0xEE#8) ∧
    ((writing t2).CarriesRequest 1 t2 writeRequest ∧ (writing t2).context = some c ∧ t2.phase = .writing ∧
      (writing t2).Answers 1 t2 true (.downstreamDataAnswer 1 true) ∧
      (writing t2).Answers 1 t2 false (.downstreamDataAnswer 1 false)) := by
  simp only [State.CarriesRequest, State.Answers, State.Carries]
  decide

/-- The answers to PA+W, the index byte and PA+R of a held read address, and the answer to PA+R of a raw read. -/
theorem witness_ReadRequestAnswered :
    let t0 := readPhase .addressing 0 (.byte 0xA0#8)
    let t1 := readPhase .indexing 1 (.byte 0x03#8)
    let t2 := readPhase .restarting 1 (.byte 0xA1#8)
    let t3 := { Transaction.fresh (.request rawRequest) 0#16 0#8 false with out := .byte 0x45#8 }
    let raw := board.setMode 2 (.busy t3)
    let s := reading (some .readAddress)
    ((s t0).CarriesRequest 0 t0 readRequest ∧ t0.phase ≠ .writing ∧ readRequest.kind = .indexedRead ∧ t0.phase ≠ .restarting ∧
      (s t0).Answers 0 t0 true (.downstreamAddressAnswer 0 true)) ∧
    ((s t1).CarriesRequest 0 t1 readRequest ∧ t1.phase ≠ .restarting ∧ (s t1).Answers 0 t1 false (.downstreamIndexAnswer 0 false)) ∧
    ((s t2).CarriesRequest 0 t2 readRequest ∧ t2.phase = .restarting ∧ (s t2).Answers 0 t2 true (.downstreamAddressAnswer 0 true) ∧
      (s t2).Answers 0 t2 false (.downstreamAddressAnswer 0 false) ∧
      ∃ c, (s t2).context = some c ∧ c.hold = some ⟨.readAddress, 30⟩) ∧
    ((reading (some .readByte) t2).CarriesRequest 0 t2 readRequest ∧
      (reading (some .readByte) t2).Answers 0 t2 true (.downstreamAddressAnswer 0 true) ∧
      ∃ c, (reading (some .readByte) t2).context = some c ∧ c.hold = some ⟨.readByte, 30⟩) ∧
    (raw.CarriesRequest 2 t3 rawRequest ∧ rawRequest.kind = .rawRead ∧ t3.phase = .addressing ∧
      raw.Answers 2 t3 false (.downstreamAddressAnswer 2 false)) := by
  simp only [State.CarriesRequest, State.Answers, State.Carries]
  refine ⟨by decide, by decide, ⟨by decide, by decide, by decide, by decide, _, rfl, rfl⟩,
    ⟨by decide, by decide, _, rfl, rfl⟩, by decide⟩

theorem witness_WithdrawnRequestAnswered :
    let w (p : Phase) (n : Nat) (o : SegOut) := { writePhase p n o with work := .detached writeRequest, entryOwed := true }
    let r (p : Phase) (n : Nat) (o : SegOut) := { readPhase p n o with work := .detached readRequest }
    let w0 := w .addressing 0 (.byte 0x90#8)
    let w1 := w .indexing 1 (.byte 0x07#8)
    let w2 := w .writing 2 (.byte 0xEE#8)
    let r2 := r .restarting 1 (.byte 0xA1#8)
    let raw := { Transaction.fresh (.detached rawRequest) 0#16 0#8 false with out := .byte 0x45#8 }
    ((withdrawn writeRequest w0).Carries 1 w0 ∧ w0.work = .detached writeRequest ∧
      (withdrawn writeRequest w0).Answers 1 w0 false (.downstreamAddressAnswer 1 false) ∧ writeRequest.kind ≠ .rawRead) ∧
    ((withdrawn writeRequest w1).Answers 1 w1 true (.downstreamIndexAnswer 1 true) ∧ w1.phase = .indexing) ∧
    ((withdrawn writeRequest w2).Carries 1 w2 ∧ (withdrawn writeRequest w2).Answers 1 w2 true (.downstreamDataAnswer 1 true) ∧
      w2.phase = .writing ∧ w2.entryOwed = true) ∧
    ((withdrawn readRequest r2).Carries 0 r2 ∧ r2.work = .detached readRequest ∧
      (withdrawn readRequest r2).Answers 0 r2 true (.downstreamAddressAnswer 0 true) ∧ r2.phase = .restarting) ∧
    ((withdrawn rawRequest raw).Carries 2 raw ∧ (withdrawn rawRequest raw).Answers 2 raw false (.downstreamAddressAnswer 2 false) ∧
      raw.phase = .addressing ∧ rawRequest.kind = .rawRead) := by
  simp only [State.Answers, State.Carries]
  decide

theorem witness_ByteReceived :
    let t := readPhase .reading 1 .released
    let d := { t with work := .detached readRequest }
    ((reading (some .readByte) t).Carries 0 t ∧ t.phase = .reading ∧ t.work = .request readRequest ∧
      ∃ c, (reading (some .readByte) t).context = some c ∧ c.hold = some ⟨.readByte, 30⟩) ∧
    ((withdrawn readRequest d).Carries 0 d ∧ d.phase = .reading ∧ d.work = .detached readRequest) := by
  simp only [State.Carries]
  exact ⟨⟨by decide, by decide, by decide, _, rfl, rfl⟩, by decide⟩

/-- A delivered record; an address refused on attempts 3 and 4 of a route with three retries; a byte refused; a gap over. -/
theorem witness_AttemptEnds :
    let t := { sent with phase := .stopping, position := 2, out := .stop }
    let refused (n : Nat) := { t with refused := true, position := n }
    let s (t : Transaction) (n : Nat) := (delivering t).setList 0 [{ head with attempts := n }]
    ((delivering t).CarriesRecord 0 t head [] ∧ t.phase = .stopping ∧ t.refused = false) ∧
    ((s (refused 0) 3).CarriesRecord 0 (refused 0) { head with attempts := 3 } [] ∧ (refused 0).refused = true ∧
      (refused 0).position = 0 ∧ 3 ≤ head.addrRetries) ∧
    ((s (refused 0) 4).CarriesRecord 0 (refused 0) { head with attempts := 4 } [] ∧ head.addrRetries < 4) ∧
    ((s (refused 1) 1).CarriesRecord 0 (refused 1) head [] ∧ 1 ≤ (refused 1).position) ∧
    ((board.setList 0 [{ record with state := .retryWait }]).list 0 = [{ record with state := .retryWait }]) := by
  simp only [State.CarriesRecord, State.Carries]
  decide

theorem witness_RequestEndsAtStop :
    let refused := { readPhase .stopping 0 .stop with refused := true }
    let ended := readPhase .stopping 1 (.ninthBit false .ackHold)
    let late := { writePhase .stopping 0 .stop with work := .detached writeRequest, unanswered := true, entryOwed := true }
    let quiet := { late with unanswered := false, entryOwed := false }
    ((reading (some .readAddress) refused).Carries 0 refused ∧ refused.phase = .stopping ∧ refused.work = .request readRequest ∧
      refused.refused = true ∧ readRequest.kind ≠ .write ∧
      ∃ c, (reading (some .readAddress) refused).context = some c ∧ c.hold = some ⟨.readAddress, 30⟩) ∧
    ((reading none ended).Carries 0 ended ∧ ended.refused = false ∧ ∃ c, (reading none ended).context = some c ∧ c.hold = none) ∧
    ((withdrawn writeRequest late).Carries 1 late ∧ late.work = .detached writeRequest ∧ late.unanswered = true) ∧
    ((withdrawn writeRequest quiet).Carries 1 quiet ∧ quiet.work = .detached writeRequest ∧ quiet.unanswered = false) := by
  simp only [State.Carries]
  exact ⟨⟨by decide, by decide, by decide, by decide, by decide, _, rfl, rfl⟩, ⟨by decide, by decide, _, rfl, rfl⟩, by decide⟩

/-! ### Witnesses: segment faults and recovery -/

theorem witness_RecordFaults :
    let t := { sent with phase := .stopping, position := 2, out := .stop }
    ((delivering sent).CarriesRecord 0 sent head [] ∧ sent.phase ≠ .writeWait ∧ sent.phase ≠ .ackHold) ∧
    (sent.phase = .addressing ∧ sent.out = .byte 0xA0#8 ∧ 0xA0#8 ≠ 0#8) ∧
    ((delivering t).CarriesRecord 0 t head [] ∧ t.phase = .stopping) := by
  simp only [State.CarriesRecord, State.Carries]
  decide

theorem witness_RequestFaults :
    let w := writePhase .writing 2 (.byte 0xEE#8)
    let r := readPhase .restarting 1 (.byte 0xA1#8)
    let e := readPhase .stopping 1 .stop
    let x := writePhase .stopping 2 .stop
    let d := { w with work := .detached writeRequest, entryOwed := true }
    ((writing w).Carries 1 w ∧ w.work = .request writeRequest ∧ w.phase ≠ .writeWait ∧ w.phase ≠ .ackHold ∧ w.phase = .writing ∧
      w.out = .byte 0xEE#8 ∧ 0xEE#8 ≠ 0#8 ∧ ∃ c, (writing w).context = some c ∧ c.hold = some ⟨.passByte, 30⟩) ∧
    ((reading (some .readByte) r).Carries 0 r ∧ r.phase = .restarting ∧ r.out = .byte 0xA1#8 ∧ r.work = .request readRequest) ∧
    ((reading none e).Carries 0 e ∧ e.phase = .stopping ∧ ∃ c, (reading none e).context = some c ∧ c.hold = none) ∧
    (((opened .upWrite { writeAt 1 (some 0x08#16) with request := .taken, refusing := true }).setMode 1 (.busy x)).Carries 1 x ∧
      x.phase = .stopping ∧ x.unanswered = false) ∧
    ((withdrawn writeRequest d).Carries 1 d ∧ d.work = .detached writeRequest ∧ d.unanswered = true ∧ d.entryOwed = true) := by
  simp only [State.Carries]
  exact ⟨⟨by decide, by decide, by decide, by decide, by decide, by decide, by decide, _, rfl, rfl⟩, by decide,
    ⟨by decide, by decide, _, rfl, rfl⟩, by decide⟩

/-- The board with engine 0 in a procedure. -/
def recovers (step : RecoveryStep) (pulses : Nat) : State := board.setMode 0 (.recovery ⟨step, pulses, true⟩)

theorem witness_RecoveryProceeds :
    (((recovers .opening 0).engine 0).mode = .recovery ⟨.opening, 0, true⟩) ∧
    (((recovers .pulse 7).engine 0).mode = .recovery ⟨.pulse, 7, true⟩ ∧ 7 + 1 < 9) ∧
    (((recovers .stop 8).engine 0).mode = .recovery ⟨.stop, 8, true⟩ ∧ 8 < 9) := by
  decide

/-- The ninth pulse, and nine pulses at the stop condition; a read that waits, a write held for a record, and neither. -/
theorem witness_RecoveryFails :
    let e := { readAt 0 (some 0x03#16) .target with request := .waiting readRequest, hold := some ⟨.readAddress, 30⟩ }
    let c := { writeAt 0 (some 0x04#16) with hold := some ⟨.postByte, 30⟩ }
    let s (port : PortState) (c : Context) := { recovers .pulse 8 with port := port, context := some c }
    (((recovers .pulse 8).engine 0).mode = .recovery ⟨.pulse, 8, true⟩ ∧ 9 = 8 + 1) ∧
    ((recovers .stop 9).engine 0).mode = .recovery ⟨.stop, 9, true⟩ ∧
    ((s .upAddress e).context = some e ∧ e.route.segment = 0 ∧ e.hold = some ⟨.readAddress, 30⟩ ∧
      e.request = .waiting readRequest) ∧
    ((s .upWrite c).context = some c ∧ c.route.segment = 0 ∧ c.hold = some ⟨.postByte, 30⟩ ∧ c.request = .absent) ∧
    (recovers .pulse 8).context = none := by
  decide

/-! ### Witnesses: what every step keeps -/

/-- The context of `kept`. -/
def keptContext : Context := { writeAt 1 (some 0x07#16) with request := .taken, hold := some ⟨.passByte, 30⟩ }

/-- A pass-through write held while engine 1 is about to make its START. -/
def kept : State := { writing (writePhase .addressing 0 .released) with pending := [.downstreamStart 1] }

theorem kept_step : ∃ t, step kept = .next t := ⟨_, rfl⟩

theorem kept_ResetOk : kept.ResetOk :=
  ⟨fun h => absurd h (by decide), fun h => absurd h (by decide)⟩

theorem kept_TablesOk : kept.TablesOk := by
  simp only [State.TablesOk, Tables.Ok, RouteEntry.Ok]
  and_intros <;> decide

theorem kept_LogOk : kept.LogOk := by
  simp only [State.LogOk]
  and_intros <;> decide

theorem kept_bounds : kept.CacheOk ∧ kept.PoolOk ∧ kept.LimitsOk ∧ kept.FrameOk := by
  simp only [State.CacheOk, State.PoolOk, State.LimitsOk, State.FrameOk]
  and_intros <;> decide

theorem kept_ContextOk : kept.ContextOk := by
  refine ⟨by decide, ?_⟩
  show Context.FitsPort _ .upWrite ∧ _
  simp only [Context.FitsPort, Context.Fits]
  and_intros <;> decide

theorem kept_QueueOk : kept.QueueOk := by
  simp only [State.QueueOk]
  and_intros <;> decide

theorem kept_RequestOk : kept.RequestOk := by
  simp only [State.RequestOk]
  decide

theorem kept_PendingOk : kept.PendingOk := by
  simp only [State.PendingOk]
  decide

theorem kept_PointerOk : kept.PointerOk := by
  refine ⟨fun i p h => ?_, fun c h i hi => ?_⟩
  · have unknown := (by decide : ∀ i : Slot, (kept.slotRuntime i).pointer = none) i
    exact absurd (unknown.symm.trans h) (by simp)
  · obtain rfl : keptContext = c := Option.some.inj h
    obtain rfl : 0x07#16 = i := Option.some.inj hi
    exact ⟨by decide, by decide⟩

theorem kept_MarksOk : kept.MarksOk := by
  simp only [State.MarksOk]
  decide

theorem kept_LinesOk : kept.LinesOk := fun l (h : l ∈ []) => (List.not_mem_nil h).elim

theorem kept_RoutesOk : kept.RoutesOk := by
  simp only [State.RoutesOk]
  decide

theorem kept_RecordsOk : kept.RecordsOk := fun r (h : r ∈ []) => (List.not_mem_nil h).elim

theorem kept_EnginesOk : kept.EnginesOk := by
  intro g
  match g with
  | 0 => trivial
  | 1 => exact ⟨by decide, by decide, by decide, by decide, by decide, by decide⟩
  | 2 => trivial
  | 3 => trivial

theorem kept_WorkOk : kept.WorkOk := by
  intro c h
  obtain rfl : keptContext = c := Option.some.inj h
  refine ⟨fun r (h : RequestState.taken = .waiting r) => (nomatch h), fun t r _ ht hr => ?_,
    fun h => absurd h (by decide)⟩
  obtain rfl : writePhase .addressing 0 .released = t := EngineMode.busy.inj ht
  obtain rfl : writeRequest = r := Work.request.inj hr
  exact ⟨⟨by decide, by decide, by decide, by decide⟩, by decide, by decide⟩

theorem kept_Ok : kept.Ok :=
  ⟨kept_ResetOk, kept_LogOk, kept_bounds.1, kept_bounds.2.1, kept_bounds.2.2.1, kept_bounds.2.2.2, kept_TablesOk, kept_ContextOk,
    kept_QueueOk, kept_RequestOk, kept_PendingOk, kept_PointerOk, kept_MarksOk, kept_LinesOk, kept_RoutesOk,
    kept_RecordsOk, kept_EnginesOk, kept_WorkOk⟩

theorem witness_ResetAndTablesKept : kept.ResetOk ∧ kept.TablesOk ∧ ∃ t, step kept = .next t :=
  ⟨kept_ResetOk, kept_TablesOk, kept_step⟩

/-- A release that takes an entry, besides, as a row and as a frame. -/
theorem witness_LogKept :
    (kept.LogOk ∧ ∃ t, step kept = .next t) ∧
    (∃ t, step { logged with pending := [.logRelease 0x01#8 0#16] } = .next t ∧ t.log = []) ∧
    ∃ t,
      step
        { logged with
          port := .upMgmtWrite, frame := .collecting, buffer := [0x41#8, 0x01#8, 0x00#8, 0x00#8],
          pending := [.upstreamStop high] } = .next t ∧ t.log = [] :=
  ⟨⟨kept_LogOk, kept_step⟩, ⟨_, rfl, rfl⟩, _, rfl, rfl⟩

theorem witness_BoundsKept : (kept.PoolOk ∧ kept.CacheOk ∧ kept.LimitsOk ∧ kept.FrameOk) ∧ ∃ t, step kept = .next t :=
  ⟨⟨kept_bounds.2.1, kept_bounds.1, kept_bounds.2.2.1, kept_bounds.2.2.2⟩, kept_step⟩

theorem witness_PortAndEnginesKept : kept.Ok ∧ ∃ t, step kept = .next t := ⟨kept_Ok, kept_step⟩

theorem witness_QueueKept : kept.Ok ∧ ∃ t, step kept = .next t := ⟨kept_Ok, kept_step⟩

theorem witness_CacheKept : kept.Ok ∧ ∃ t, step kept = .next t := ⟨kept_Ok, kept_step⟩

theorem witness_InvariantsKept : kept.Ok ∧ ∃ t, step kept = .next t := ⟨kept_Ok, kept_step⟩

theorem witness_SegmentsIndependent :
    kept.Ok ∧ busSegment (.downstreamStart 1) = some 1 ∧ (0 : Seg) ≠ 1 ∧ ∃ t, exec (.downstreamStart 1) kept = .next t :=
  ⟨kept_Ok, by decide, by decide, _, rfl⟩

/-- A reset, a COMMIT that succeeds, as a row and as a frame, and a command that changes neither. -/
theorem witness_ActiveTablesChangeAtCommit :
    (∃ t, exec .powerOnReset ready = .next t) ∧ (∃ t, exec (.commit 0x0A#8 0x0001#16) ready = .next t ∧ t.generation = 2#16) ∧
    (∃ t,
      exec (.upstreamRepeatedStart high)
        { ready with port := .upMgmtWrite, frame := .collecting, buffer := [0x15#8, 0x0A#8, 0x00#8, 0x01#8] } = .next t ∧
        t.generation = 2#16) ∧
    ∃ t, exec (.status 0x01#8) ready = .next t :=
  ⟨⟨_, rfl⟩, ⟨_, rfl, by decide⟩, ⟨_, rfl, by decide⟩, _, rfl⟩

end Sys2Proof.Tests
end

section
/-! PROOFS. The staged tables: what a row's operand bytes say, what a management row answers once it may execute, and the route
and window commands (R16 to R18, R20, R23, R24). -/

namespace Sys2Proof.Machine

/-! ### Operand bytes -/

/-- The byte of a number is the byte that carries it. -/
theorem byteOf_toNat (b : Byte) : byteOf b.toNat = b := by simp [byteOf]

/-- A number below 256 is carried by one byte. -/
theorem byteOf_eq_iff {n : Nat} (h : n < 256) (b : Byte) : byteOf n = b ↔ b.toNat = n := by
  simp only [byteOf, BitVec.toNat_eq, BitVec.toNat_ofNat]
  omega

theorem segOf_eq_some_iff (b : Byte) (g : Seg) : segOf b = some g ↔ byteOf g.val = b := by
  rw [byteOf_eq_iff (by omega)]
  simp only [segOf, Option.dite_none_right_eq_some, Option.some.injEq, Fin.ext_iff, exists_prop]
  omega

theorem slotOf_eq_some_iff (b : Byte) (i : Slot) : slotOf b = some i ↔ b.toNat = i.val := by
  simp only [slotOf, Option.dite_none_right_eq_some, Option.some.injEq, Fin.ext_iff, exists_prop]
  omega

theorem slotOf_eq_none_iff (b : Byte) : slotOf b = none ↔ 32 ≤ b.toNat := by simp [slotOf]

/-- A slot byte below 32 names a slot. -/
theorem slotOf_eq_some_of_lt {b : Byte} (h : b.toNat < 32) : ∃ i, slotOf b = some i :=
  ⟨⟨b.toNat, h⟩, (slotOf_eq_some_iff b _).mpr rfl⟩

theorem winOf_eq_some_iff (b : Byte) (j : Win) : winOf b = some j ↔ b.toNat = j.val := by
  simp only [winOf, Option.dite_none_right_eq_some, Option.some.injEq, Fin.ext_iff, exists_prop]
  omega

theorem winOf_eq_none_iff (b : Byte) : winOf b = none ↔ 64 ≤ b.toNat := by simp [winOf]

/-- A window byte below 64 names a window. -/
theorem winOf_eq_some_of_lt {b : Byte} (h : b.toNat < 64) : ∃ j, winOf b = some j :=
  ⟨⟨b.toNat, h⟩, (winOf_eq_some_iff b _).mpr rfl⟩

theorem numberOf_eq_some_iff {lo hi : Nat} (h : hi < 256) (b : Byte) (n : Nat) :
    numberOf lo hi b = some n ↔ (lo ≤ n ∧ n ≤ hi) ∧ byteOf n = b := by
  simp only [numberOf, Option.ite_none_right_eq_some, Option.some.injEq]
  constructor
  · rintro ⟨range, rfl⟩
    exact ⟨range, byteOf_toNat b⟩
  · rintro ⟨range, hb⟩
    have := (byteOf_eq_iff (by omega) b).mp hb
    omega

theorem addrOf_eq_some_iff (b : Byte) (a : Addr) : addrOf b = some a ↔ reservedAddr a = false ∧ byteOf a.toNat = b := by
  rw [byteOf_eq_iff (by omega)]
  simp only [addrOf, reservedAddr, Option.ite_none_right_eq_some, Option.some.injEq, BitVec.toNat_eq, BitVec.toNat_ofNat,
    Bool.or_eq_false_iff, decide_eq_false_iff_not]
  omega

theorem boolOf_eq_some_iff (b : Byte) (c : Bool) : boolOf b = some c ↔ boolCode c = b := by
  revert b c
  decide

theorem boolOf_eq_none_iff (b : Byte) : boolOf b = none ↔ 2 ≤ b.toNat := by
  revert b
  decide

theorem accessOf_eq_some_iff (b : Byte) (a : Access) : accessOf b = some a ↔ a.value = b := by
  revert b
  cases a <;> decide

theorem accessOf_eq_none_iff (b : Byte) : accessOf b = none ↔ 4 ≤ b.toNat := by
  revert b
  decide

theorem modeOf_eq_some_iff (b : Byte) (m : Mode) : modeOf b = some m ↔ m.value = b := by
  revert b
  cases m <;> decide

theorem widthOf_eq_some_iff (b : Byte) (w : IndexWidth) : widthOf b = some w ↔ byteOf w.bytes = b := by
  revert b
  cases w <;> decide

/-- The Flags byte carries AutoInc in bit 0 and LogDenials in bit 1, and is 3 at most (R207). -/
theorem numberOf_routeFlags (e : RouteEntry) :
    ∃ n, numberOf 0 3 (routeFlags e) = some n ∧ n.testBit 0 = e.autoInc ∧ n.testBit 1 = e.logDenials := by
  refine ⟨(if e.autoInc then 1 else 0) + (if e.logDenials then 2 else 0), ?_⟩
  cases ha : e.autoInc <;> cases hl : e.logDenials <;> simp only [routeFlags, ha, hl] <;> decide

/-- A number up to 3 is the Flags byte of the entry that takes its two bits. -/
theorem routeFlags_testBit {e : RouteEntry} {n : Nat} (h : n ≤ 3) (ha : e.autoInc = n.testBit 0)
    (hl : e.logDenials = n.testBit 1) : routeFlags e = byteOf n := by
  simp only [routeFlags, ha, hl]
  interval_cases n <;> decide

/-- The image of a route entry as ROUTE_STAGE carries it, after a Valid byte of yes (R208). -/
def stagedImage (m : RouteImage) : List Byte :=
  [0x01#8, m.vaddr, m.segment, m.paddr, m.indexWidth, m.mode, m.flags, m.maxPost, m.addrRetries, m.retryGap, m.defaultAccess,
    m.winFirst, m.winCount]

/-- An entry that the image spells is in range, and its payload gives the image back. -/
theorem routeEntryOf_sound {m : RouteImage} {e : RouteEntry} (h : routeEntryOf m = some e) :
    e.Ok ∧ routePayload e = stagedImage m := by
  simp only [routeEntryOf, Option.bind_eq_bind, ↓Option.bind_eq_some_iff, Option.ite_none_right_eq_some,
    Option.some.injEq] at h
  obtain ⟨va, hva, g, hg, pa, hpa, w, hw, md, hmd, fl, hfl, mp, hmp, ar, har, rg, hrg, da, hda, wf, hwf, wc, hwc, fits, rfl⟩ := h
  rw [addrOf_eq_some_iff] at hva hpa
  simp (disch := decide) only [numberOf_eq_some_iff] at hfl hmp har hrg hwf hwc
  refine ⟨⟨by simp, hva.1, hpa.1, hmp.1.1, hmp.1.2, har.1.2, hrg.1.1, hrg.1.2, hwf.1.2, hwc.1.2, fits⟩, ?_⟩
  have flags {e : RouteEntry} (ha : e.autoInc = fl.testBit 0) (hl : e.logDenials = fl.testBit 1) : routeFlags e = m.flags :=
    (routeFlags_testBit hfl.1.2 ha hl).trans hfl.2
  simp only [routePayload, stagedImage, boolCode, if_true, flags, hva.2, hpa.2,
    (segOf_eq_some_iff _ _).mp hg, (widthOf_eq_some_iff _ _).mp hw, (modeOf_eq_some_iff _ _).mp hmd,
    (accessOf_eq_some_iff _ _).mp hda, hmp.2, har.2, hrg.2, hwf.2, hwc.2]

/-- An entry in range whose payload the image gives is the one that the image spells. -/
theorem routeEntryOf_complete {m : RouteImage} {e : RouteEntry} (ok : e.Ok) (h : routePayload e = stagedImage m) :
    routeEntryOf m = some e := by
  simp only [routePayload, stagedImage, List.cons.injEq, and_true] at h
  obtain ⟨bvalid, bva, bg, bpa, bw, bmd, bfl, bmp, bar, brg, bda, bwf, bwc⟩ := h
  obtain ⟨-, hva, hpa, hmp, hmp', har, hrg, hrg', hwf, hwc, fits⟩ := ok
  obtain ⟨fl, hfl, hauto, hlog⟩ := numberOf_routeFlags e
  have valid : e.valid = true := by simpa [boolCode] using bvalid
  simp only [routeEntryOf, ← bfl, hfl, (addrOf_eq_some_iff _ _).mpr ⟨hva, bva⟩, (segOf_eq_some_iff _ _).mpr bg,
    (addrOf_eq_some_iff _ _).mpr ⟨hpa, bpa⟩, (widthOf_eq_some_iff _ _).mpr bw, (modeOf_eq_some_iff _ _).mpr bmd,
    (numberOf_eq_some_iff (by decide) _ _).mpr ⟨⟨hmp, hmp'⟩, bmp⟩,
    (numberOf_eq_some_iff (by decide) _ _).mpr ⟨⟨Nat.zero_le _, har⟩, bar⟩,
    (numberOf_eq_some_iff (by decide) _ _).mpr ⟨⟨hrg, hrg'⟩, brg⟩, (accessOf_eq_some_iff _ _).mpr bda,
    (numberOf_eq_some_iff (by decide) _ _).mpr ⟨⟨Nat.zero_le _, hwf⟩, bwf⟩,
    (numberOf_eq_some_iff (by decide) _ _).mpr ⟨⟨Nat.zero_le _, hwc⟩, bwc⟩, Option.bind_eq_bind, Option.bind_some, if_pos fits,
    hauto, hlog, ← valid]

/-- The image spells an entry exactly where it is the image of that entry, valid and in range (R16, R207, R208). -/
theorem routeEntryOf_eq_some_iff (m : RouteImage) (e : RouteEntry) :
    routeEntryOf m = some e ↔ e.Ok ∧ routePayload e = stagedImage m :=
  ⟨routeEntryOf_sound, fun ⟨ok, h⟩ => routeEntryOf_complete ok h⟩

/-- The image spells no entry where it is the image of none in range. -/
theorem routeEntryOf_eq_none {m : RouteImage} (h : ¬∃ e : RouteEntry, e.Ok ∧ routePayload e = stagedImage m) :
    routeEntryOf m = none :=
  Option.eq_none_iff_forall_ne_some.mpr fun e he => h ⟨e, (routeEntryOf_eq_some_iff m e).mp he⟩

/-- A copy selector of 0 or 1 names the active or the staged copy (R20). -/
theorem State.copyOf_of_le_one (s : State) {copy : Byte} (h : copy.toNat ≤ 1) :
    s.copyOf copy = some (if copy = 1#8 then s.staged else s.active) := by
  obtain rfl | rfl : copy = 0#8 ∨ copy = 1#8 := by bv_omega
  · rfl
  · rfl

/-- Any other selector names no copy. -/
theorem State.copyOf_of_two_le (s : State) {copy : Byte} (h : 2 ≤ copy.toNat) : s.copyOf copy = none := by
  rw [State.copyOf, (boolOf_eq_none_iff copy).mpr h, Option.map_none]

/-! ### Rows that execute -/

/-- Where a command can execute, its row is the command and the write of its response (R187, R193). -/
theorem State.Ready.execute_eq {s : State} (h : s.Ready) (tag : Byte) (f : State → State × Reply) :
    s.execute tag f = .next (State.finish tag (f s)) := by
  obtain ⟨running, closed⟩ := h
  simp [State.execute, State.canExecute, running, closed]

/-- A reply that starts no procedure is written as the claims say it. -/
theorem State.finish_reply (tag : Byte) (s : State) (c : Code) (payload : List Byte) :
    State.finish tag (s, reply c payload) = s.answered tag c payload := rfl

theorem State.finish_replyCode (tag : Byte) (s : State) (c : Code) :
    State.finish tag (s, replyCode c) = s.answered tag c [] := rfl

theorem exec_routeStage {s : State} (h : s.Ready) (tag slot : Byte) (m : RouteImage) :
    exec (.routeStage tag slot m) s = .next (State.finish tag (cmdRouteStage slot m s)) := h.execute_eq tag _

theorem exec_routeUnstage {s : State} (h : s.Ready) (tag slot : Byte) :
    exec (.routeUnstage tag slot) s = .next (State.finish tag (cmdRouteUnstage slot s)) := h.execute_eq tag _

theorem exec_routeQuery {s : State} (h : s.Ready) (tag slot copy : Byte) :
    exec (.routeQuery tag slot copy) s = .next (State.finish tag (cmdRouteQuery slot copy s)) := h.execute_eq tag _

theorem exec_windowStage {s : State} (h : s.Ready) (tag window : Byte) (low high : Word16) (access cacheable : Byte) :
    exec (.windowStage tag window low high access cacheable) s =
      .next (State.finish tag (cmdWindowStage window low high access cacheable s)) := h.execute_eq tag _

theorem exec_windowQuery {s : State} (h : s.Ready) (tag window copy : Byte) :
    exec (.windowQuery tag window copy) s = .next (State.finish tag (cmdWindowQuery window copy s)) := h.execute_eq tag _

theorem exec_commit {s : State} (h : s.Ready) (tag : Byte) (expected : Word16) :
    exec (.commit tag expected) s = .next (State.finish tag (cmdCommit expected s)) := h.execute_eq tag _

/-- WINDOW_STAGE refuses a window whose Low is above its High, or a byte that names no access or no yes or no (R18). -/
theorem cmdWindowStage_badValue {window access cacheable : Byte} {low high : Word16} (hw : window.toNat < 64)
    (bad : high.toNat < low.toNat ∨ 4 ≤ access.toNat ∨ 2 ≤ cacheable.toNat) (s : State) :
    cmdWindowStage window low high access cacheable s = (s, replyCode .badValue) := by
  obtain ⟨j, hj⟩ := winOf_eq_some_of_lt hw
  rw [← accessOf_eq_none_iff, ← boolOf_eq_none_iff] at bad
  simp only [cmdWindowStage, hj]
  split
  next a c ha hc =>
    have above : high.toNat < low.toNat := by simpa [ha, hc] using bad
    rw [if_pos above]
  next => rfl

/-! ### Validation of a staged set (R24) -/

/-- The third check of R24: a window of an indexed route's run has a High past the route's width. -/
def tooWide (t : Tables) (r : RouteEntry) : Bool :=
  r.width.indexed && (run t r).any fun w => decide (r.width.span ≤ w.high.toNat)

theorem tooWide_eq_false_iff (t : Tables) (r : RouteEntry) :
    tooWide t r = false ↔ (r.width ≠ .raw → ∀ w ∈ run t r, w.high.toNat < r.width.span) := by
  cases hw : r.width <;> simp [tooWide, IndexWidth.indexed, hw]

/-- The checks of R24 in their order. -/
theorem validateSlot_eq (t : Tables) (mga : Addr) (i : Slot) :
    validateSlot t mga i =
      if t.routes[i].valid = false then none
      else if ∃ j : Slot, j < i ∧ t.routes[j].valid = true ∧ t.routes[j].vaddr = t.routes[i].vaddr then some .dupVaddr
      else if t.routes[i].vaddr = mga then some .mgmtVaddr
      else if tooWide t t.routes[i] = true then some .windowWidth
      else none := by
  simp only [validateSlot, tooWide, Bool.not_eq_true', beq_iff_eq, Bool.and_eq_true, List.any_eq_true, List.mem_finRange,
    true_and, decide_eq_true_eq, and_assoc]

/-- A slot passes exactly where no check of R24 fails. -/
theorem validateSlot_eq_none_iff (t : Tables) (mga : Addr) (i : Slot) : validateSlot t mga i = none ↔ t.Passes mga i := by
  rw [validateSlot_eq, Tables.Passes, ← tooWide_eq_false_iff]
  split_ifs with invalid dup own wide
  · exact iff_of_true rfl fun valid => absurd (valid.symm.trans invalid) (by decide)
  · obtain ⟨j, lower, valid, same⟩ := dup
    refine iff_of_false nofun fun passes => ?_
    exact (passes (Bool.eq_true_of_not_eq_false invalid)).1 j lower valid same
  · exact iff_of_false nofun fun passes => (passes (Bool.eq_true_of_not_eq_false invalid)).2.1 own
  · refine iff_of_false nofun fun passes => ?_
    exact Bool.false_ne_true ((passes (Bool.eq_true_of_not_eq_false invalid)).2.2.symm.trans wide)
  · exact iff_of_true rfl fun _ =>
      ⟨fun j lower valid same => dup ⟨j, lower, valid, same⟩, own, Bool.eq_false_of_not_eq_true wide⟩

/-- A slot that fails is reported with the first check that it fails. -/
theorem validateSlot_of_not_passes {t : Tables} {mga : Addr} {i : Slot} (h : ¬t.Passes mga i) :
    validateSlot t mga i =
      some
        (if ∃ j : Slot, j < i ∧ t.routes[j].valid = true ∧ t.routes[j].vaddr = t.routes[i].vaddr then .dupVaddr
        else if t.routes[i].vaddr = mga then .mgmtVaddr
        else .windowWidth) := by
  rw [← validateSlot_eq_none_iff, validateSlot_eq] at h
  rw [validateSlot_eq]
  split_ifs at h ⊢ with invalid dup own wide
  · exact absurd rfl h
  · rfl
  · rfl
  · rfl
  · exact absurd rfl h

/-- Validation names the lowest slot that fails (R24). -/
theorem validate_eq_some {t : Tables} {mga : Addr} {i : Slot} {why : InvalidReason} (hi : validateSlot t mga i = some why)
    (hlow : ∀ j : Slot, j < i → t.Passes mga j) : validate t mga = some (why, i) := by
  rw [validate, ← Fin.findSome?_eq_findSome?_finRange, Fin.findSome?_eq_some_iff]
  refine ⟨i, by rw [hi, Option.map_some], fun j hj => ?_⟩
  rw [(validateSlot_eq_none_iff t mga j).mpr (hlow j hj), Option.map_none]

/-! ### The statements -/

/-- Settles O24: the image of an entry determines that entry, and ROUTE_STAGE reads it back. -/
theorem routeStageWrites : Obligations.RouteStageWrites := by
  intro tag slot m s ready
  simp only [exec_routeStage ready, cmdRouteStage]
  refine ⟨fun i e hi ok he => ?_, fun hslot hnone => ?_, fun hslot => ?_⟩
  · simp only [(slotOf_eq_some_iff slot i).mpr hi, (routeEntryOf_eq_some_iff m e).mpr ⟨ok, he⟩, State.finish_replyCode]
  · obtain ⟨i, hi⟩ := slotOf_eq_some_of_lt hslot
    simp only [hi, routeEntryOf_eq_none hnone, State.finish_replyCode]
  · simp only [(slotOf_eq_none_iff slot).mpr hslot, State.finish_replyCode]

/-- Settles O28: STALE is decided before the validation, and the validation stops at the lowest slot that fails. -/
theorem commitRefused : Obligations.CommitRefused := by
  intro tag expected s ready
  simp only [exec_commit ready]
  refine ⟨fun other => ?_, fun i current fails lower => ?_⟩
  · rw [cmdCommit, if_pos other, State.finish_reply, wordBytes, hiByte_eq_extract, loByte_eq_setWidth]
  · rw [cmdCommit, if_neg (not_not.mpr current), validate_eq_some (validateSlot_of_not_passes fails) lower]
    simp only [State.finish_reply, apply_ite InvalidReason.value]
    rfl

/-- Settles O25: the cleared content of R2 is what ROUTE_UNSTAGE writes. -/
theorem routeUnstageClears : Obligations.RouteUnstageClears := by
  intro tag slot s ready
  simp only [exec_routeUnstage ready, cmdRouteUnstage]
  refine ⟨fun i hi => ?_, fun hslot => ?_⟩
  · simp only [(slotOf_eq_some_iff slot i).mpr hi, State.finish_replyCode, RouteEntry.cleared]
  · simp only [(slotOf_eq_none_iff slot).mpr hslot, State.finish_replyCode]

/-- Settles O26: each operand byte of WINDOW_STAGE names the value whose code it is, or none. -/
theorem windowStageWrites : Obligations.WindowStageWrites := by
  intro tag window access cacheable low high s ready
  simp only [exec_windowStage ready]
  refine ⟨fun j a c hj ha hc ordered => ?_, fun hw bad => ?_, fun hw => ?_⟩
  · simp only [cmdWindowStage, (winOf_eq_some_iff window j).mpr hj, (accessOf_eq_some_iff access a).mpr ha,
      (boolOf_eq_some_iff cacheable c).mpr hc, if_neg (Nat.not_lt.mpr ordered), State.finish_replyCode]
  · rw [cmdWindowStage_badValue hw bad, State.finish_replyCode]
  · simp only [cmdWindowStage, (winOf_eq_none_iff window).mpr hw, State.finish_replyCode]

/-- Settles O27: the selector decides the copy, and the queries write nothing but the response. -/
theorem tableQueriesAnswer : Obligations.TableQueriesAnswer := by
  intro tag n copy s ready
  simp only [exec_routeQuery ready, exec_windowQuery ready, cmdRouteQuery, cmdWindowQuery]
  refine ⟨fun i hi hc => ?_, fun hn hc => ?_, fun hn => ?_, fun j hj hc => ?_, fun hn hc => ?_, fun hn => ?_⟩
  · simp only [(slotOf_eq_some_iff n i).mpr hi, s.copyOf_of_le_one hc, State.finish_reply]
  · obtain ⟨i, hi⟩ := slotOf_eq_some_of_lt hn
    simp only [hi, s.copyOf_of_two_le hc, State.finish_replyCode]
  · simp only [(slotOf_eq_none_iff n).mpr hn, State.finish_replyCode]
  · simp only [(winOf_eq_some_iff n j).mpr hj, s.copyOf_of_le_one hc, State.finish_reply]
  · obtain ⟨j, hj⟩ := winOf_eq_some_of_lt hn
    simp only [hj, s.copyOf_of_two_le hc, State.finish_replyCode]
  · simp only [(winOf_eq_none_iff n).mpr hn, State.finish_replyCode]

end Sys2Proof.Machine
end

section
/-! PROOFS. The upstream port: what the port does when it makes a request of an engine, and a routed address that passes the checks
(R51 to R54, R109, R111, R112). -/

namespace Sys2Proof.Machine

/-! ### Requests of the port -/

/-- An engine that serves its segment's routes is not STUCK (R51, R109). -/
theorem EngineMode.ne_stuck_of_outOfService {m : EngineMode} (h : m.outOfService = false) : m ≠ .stuck := by
  rintro rfl
  cases h

/-- The WAITING request of the context is unblocked at its own engine where no record names its target (R112, case 2). -/
theorem State.unblockedRequest_waiting {s : State} {c : Context} {r : Request} (hc : s.context = some c)
    (hr : c.request = .waiting r) :
    s.unblockedRequest r.segment = if s.anyNames r.segment r.paddr then none else some r := by
  cases h : s.anyNames r.segment r.paddr <;> simp [State.unblockedRequest, hc, hr, h]

/-- An IDLE engine takes the unblocked request (R112, case 2). -/
theorem State.arbiter_eq_taken {s : State} {g : Seg} {r : Request} (idle : (s.engine g).mode = .idle)
    (unblocked : s.unblockedRequest g = some r) :
    s.arbiter g =
      (s.setMode g (.busy (Transaction.ofRequest r))).onContext fun c => { c with request := .taken } := by
  simp only [State.arbiter, idle, unblocked]

/-- The arbiter of an engine that is not IDLE takes nothing (R111). -/
theorem State.arbiter_eq_self {s : State} {g : Seg} (busy : (s.engine g).mode ≠ .idle) : s.arbiter g = s := by
  unfold State.arbiter
  split
  next idle => exact absurd idle busy
  next => rfl

/-- At an engine that is not STUCK a request is WAITING when the arbiter acts (R109, R111). -/
theorem State.makeRequest_eq_arbiter {s : State} {r : Request} (live : (s.engine r.segment).mode ≠ .stuck) (c : Context)
    (p : HoldPoint) :
    s.makeRequest c r p =
      { s with context := some { c with request := .waiting r, hold := some ⟨p, s.holdLimit⟩ } }.arbiter r.segment :=
  if_neg live

/-- An IDLE engine takes the request at once where no record names the target (R112). -/
theorem State.makeRequest_taken {s : State} {r : Request} (idle : (s.engine r.segment).mode = .idle)
    (free : s.anyNames r.segment r.paddr = false) (c : Context) (p : HoldPoint) :
    s.makeRequest c r p =
      { s with context := some { c with request := .taken, hold := some ⟨p, s.holdLimit⟩ } }.setMode r.segment
        (.busy (Transaction.ofRequest r)) :=
  (State.makeRequest_eq_arbiter (by simp [idle]) c p).trans <|
    State.arbiter_eq_taken idle ((State.unblockedRequest_waiting rfl rfl).trans (if_neg (ne_true_of_eq_false free)))

/-- Behind a record that names the target the request waits, while an IDLE engine takes a QUEUED head (R111, R112). -/
theorem State.makeRequest_behind {s : State} {r : Request} (idle : (s.engine r.segment).mode = .idle)
    (named : s.anyNames r.segment r.paddr = true) (c : Context) (p : HoldPoint) :
    s.makeRequest c r p =
      { s with context := some { c with request := .waiting r, hold := some ⟨p, s.holdLimit⟩ } }.headTaken r.segment :=
  (State.makeRequest_eq_arbiter (by simp [idle]) c p).trans <|
    State.arbiter_eq_headTaken idle ((State.unblockedRequest_waiting rfl rfl).trans (if_pos named))

/-- At an engine that is neither IDLE nor STUCK the request waits (R109). -/
theorem State.makeRequest_waits {s : State} {r : Request} (busy : (s.engine r.segment).mode ≠ .idle)
    (live : (s.engine r.segment).mode ≠ .stuck) (c : Context) (p : HoldPoint) :
    s.makeRequest c r p =
      { s with context := some { c with request := .waiting r, hold := some ⟨p, s.holdLimit⟩ } } :=
  (State.makeRequest_eq_arbiter live c p).trans (State.arbiter_eq_self busy)

/-! ### Routed addresses -/

/-- An address that a slot claims is decided by the slot's route (R49 to R51). -/
theorem exec_addressDecode_routed {s : State} {a : Addr} {i : Slot} (decides : s.Decides a) (claims : s.Claims i a)
    (dir : Direction) : exec (.addressDecode a dir) s = .next (s.decodeRouted i dir) := by
  obtain ⟨port, closed, running, unreserved, notMga⟩ := decides
  change execAddressDecode a dir s = _
  simp [execAddressDecode, port, closed, running, unreserved, notMga, claims.findRoute_eq]

/-- A read address on an indexed route passes the checks at a segment in service, with the Pointer at a readable index (R51). -/
theorem State.addressCheck_read_indexed {s : State} {i : Slot} {p : Word16}
    (inService : (s.engine s.active.routes[i].segment).mode.outOfService = false) (indexed : s.active.routes[i].width ≠ .raw)
    (pointer : (s.slotRuntime i).pointer = some p) (readable : (accessAt s.active s.active.routes[i] p).reads = true) :
    s.addressCheck i .read = none := by
  simp only [State.addressCheck, inService, indexed, pointer, readable, reduceCtorEq, false_and, if_false, if_true,
    Bool.false_eq_true]

/-- A read address on an indexed route that hits is answered from the cache (R53). -/
theorem State.decodeRead_hit {s : State} {i : Slot} {p : Word16} {v : Byte} (indexed : s.active.routes[i].width ≠ .raw)
    (pointer : (s.slotRuntime i).pointer = some p) (cacheable : cacheableAt s.active s.active.routes[i] p = true)
    (found : lookup s.cache ⟨s.active.routes[i].segment, s.active.routes[i].paddr, p⟩ = some v) :
    s.decodeRead i =
      { s with
        cache := toFront s.cache ⟨s.active.routes[i].segment, s.active.routes[i].paddr, p⟩ v, port := .upRead, answer := .ack,
        sending := some v,
        context := some { s.newContext i .read with index := some p, source := .cache, follow := true } } := by
  simp only [State.decodeRead, State.newContext, (IndexWidth.indexed_iff _).mpr indexed, pointer, Option.getD_some, cacheable,
    found, if_true]
/-- A read address on an indexed route that misses, or whose index is not cacheable, is decided by the target (R54). -/
theorem State.decodeRead_miss {s : State} {i : Slot} {p : Word16} (indexed : s.active.routes[i].width ≠ .raw)
    (pointer : (s.slotRuntime i).pointer = some p)
    (missed : cacheableAt s.active s.active.routes[i] p = false ∨
      lookup s.cache ⟨s.active.routes[i].segment, s.active.routes[i].paddr, p⟩ = none) :
    s.decodeRead i =
      { s with answer := .released }.makeRequest { s.newContext i .read with index := some p }
        { s.newContext i .read with index := some p }.readRequest .readAddress := by
  have miss : (if cacheableAt s.active s.active.routes[i] p then
      lookup s.cache ⟨s.active.routes[i].segment, s.active.routes[i].paddr, p⟩ else none) = none := by
    rcases missed with uncacheable | absent
    · exact if_neg (ne_true_of_eq_false uncacheable)
    · rw [absent, ite_self]
  simp only [State.decodeRead, State.newContext, (IndexWidth.indexed_iff _).mpr indexed, pointer, Option.getD_some, miss, if_true]
/-- The read request of a context on an indexed route (R54). -/
theorem Context.readRequest_indexed {c : Context} (indexed : c.route.width ≠ .raw) :
    c.readRequest =
      { kind := .indexedRead, slot := c.slot, incarnation := c.incarnation, segment := c.route.segment, paddr := c.route.paddr,
        width := c.route.width, autoInc := c.route.autoInc, index := c.index, firstByte := 0#8 } := by
  simp [Context.readRequest, (IndexWidth.indexed_iff _).mpr indexed]

/-- Settles O10: the cache answers a hit, and a miss is the request of the port at the engine's state. -/
theorem readAddressDecided : Obligations.ReadAddressDecided := by
  intro a i p s decides claims inService indexed pointer readable r k c
  have decoded : exec (.addressDecode a .read) s = .next (s.decodeRead i) := by
    rw [exec_addressDecode_routed decides claims, State.decodeRouted,
      State.addressCheck_read_indexed inService indexed pointer readable]
  refine ⟨fun v cacheable found => ?_, fun missed => ?_⟩
  · rw [decoded, State.decodeRead_hit indexed pointer cacheable found]
  · intro q waiting
    have requested : exec (.addressDecode a .read) s =
        .next ({ s with answer := .released }.makeRequest c q .readAddress) := by
      rw [decoded, State.decodeRead_miss indexed pointer missed, Context.readRequest_indexed indexed]
      rfl
    refine ⟨fun idle free => ?_, fun idle named => ?_, fun busy => ?_⟩
    · rw [requested, State.makeRequest_taken idle free, Transaction.ofRequest_eq]
      rfl
    · rw [requested, State.makeRequest_behind idle named]
    · rw [requested, State.makeRequest_waits busy (EngineMode.ne_stuck_of_outOfService inService)]

end Sys2Proof.Machine
end

section
/-! PROOFS. The shadow cache commands: the lines that CACHE_INVALIDATE removes and counts, and the line that CACHE_PROBE finds
and places (R163, R164). -/

namespace Sys2Proof.Machine

/-! ### Lines of a target and the line of a key -/

/-- Dropping a target leaves the lines that are not its own, and takes away as many as there are of its own (R163). -/
theorem length_sub_length_dropTarget (lines : List Line) (g : Seg) (pa : Addr) :
    lines.length - (dropTarget lines g pa).length = lines.countP fun l => decide (l.key.segment = g ∧ l.key.paddr = pa) := by
  have split := lines.length_eq_countP_add_countP fun l => decide (l.key.segment = g ∧ l.key.paddr = pa)
  simp only [decide_eq_true_eq] at split
  rw [dropTarget_eq, ← List.countP_eq_length_filter]
  omega

/-- The place from the front that a probe counts is the place of the first line of the key (R164). -/
theorem findIdx_eq_of_first {lines : List Line} {k : Key} {n : Nat} {v : Byte} (held : lines[n]? = some ⟨k, v⟩)
    (first : ∀ m l, m < n → lines[m]? = some l → l.key ≠ k) : lines.findIdx (fun l => l.key == k) = n := by
  obtain ⟨inside, here⟩ := List.getElem?_eq_some_iff.mp held
  refine (List.findIdx_eq inside).mpr ⟨by rw [here]; exact beq_self_eq_true k, fun m before => ?_⟩
  simpa using first m _ before (List.getElem?_eq_getElem _)

/-- The first line of a key gives the value that the key looks up (R152). -/
theorem lookup_eq_of_first {lines : List Line} {k : Key} {n : Nat} {v : Byte} (held : lines[n]? = some ⟨k, v⟩)
    (first : ∀ m l, m < n → lines[m]? = some l → l.key ≠ k) : lookup lines k = some v := by
  rw [lookup, List.find?_eq_getElem?_findIdx, findIdx_eq_of_first held first, held, Option.map_some]

/-! ### Operands of a probe -/

theorem segOf_eq_none_iff (b : Byte) : segOf b = none ↔ 4 ≤ b.toNat := by simp [segOf]

theorem segOf_of_toNat_eq {b : Byte} {g : Seg} (h : b.toNat = g.val) : segOf b = some g :=
  (segOf_eq_some_iff b g).mpr ((byteOf_eq_iff (by omega) b).mpr h)

/-- A byte outside 08h to 77h is no target address (R164). -/
theorem addrOf_eq_none {b : Byte} (h : b.toNat < 0x08 ∨ 0x78 ≤ b.toNat) : addrOf b = none :=
  if_neg (by omega)

/-- The byte of an address of 08h to 77h names that address (R164). -/
theorem addrOf_setWidth {pa : Addr} (low : 0x08 ≤ pa.toNat) (high : pa.toNat < 0x78) : addrOf (pa.setWidth 8) = some pa := by
  refine (addrOf_eq_some_iff _ _).mpr ⟨?_, BitVec.ofNat_toNat 8 pa⟩
  simp only [reservedAddr, Bool.or_eq_false_iff, decide_eq_false_iff_not]
  omega

/-! ### CACHE_INVALIDATE -/

theorem exec_cacheInvalidate {s : State} (h : s.Ready) (tag scope slot : Byte) :
    exec (.cacheInvalidate tag scope slot) s = .next (State.finish tag (cmdCacheInvalidate scope slot s)) := h.execute_eq tag _

/-- Scope 0 empties the cache (R163). -/
theorem cmdCacheInvalidate_all (slot : Byte) (s : State) :
    cmdCacheInvalidate 0#8 slot s = ({ s with cache := [] }, reply .ok [byteOf s.cache.length]) := rfl

/-- Scope 1 drops the target of a valid active slot and counts its lines (R163). -/
theorem cmdCacheInvalidate_target {slot : Byte} {i : Slot} {s : State} (hi : slot.toNat = i.val)
    (valid : s.active.routes[i].valid = true) :
    cmdCacheInvalidate 1#8 slot s =
      ({ s with cache := dropTarget s.cache s.active.routes[i].segment s.active.routes[i].paddr },
        reply .ok [byteOf (s.cache.countP fun l =>
          decide (l.key.segment = s.active.routes[i].segment ∧ l.key.paddr = s.active.routes[i].paddr))]) := by
  rw [← length_sub_length_dropTarget]
  simp only [cmdCacheInvalidate, BitVec.reduceToNat, (slotOf_eq_some_iff slot i).mpr hi, valid, if_true]

/-- Scope 1 refuses a byte that names no slot, and a slot that is not valid (R163). -/
theorem cmdCacheInvalidate_badSlot {slot : Byte} {s : State}
    (invalid : ∀ i : Slot, slot.toNat = i.val → s.active.routes[i].valid = false) :
    cmdCacheInvalidate 1#8 slot s = (s, replyCode .badSlot) := by
  cases named : slotOf slot with
  | none => simp only [cmdCacheInvalidate, BitVec.reduceToNat, named]
  | some i =>
    have unused := invalid i ((slotOf_eq_some_iff slot i).mp named)
    simp only [cmdCacheInvalidate, BitVec.reduceToNat, named, unused, Bool.false_eq_true, if_false]

/-- No other scope is known (R196). -/
theorem cmdCacheInvalidate_badValue {scope : Byte} (h : 2 ≤ scope.toNat) (slot : Byte) (s : State) :
    cmdCacheInvalidate scope slot s = (s, replyCode .badValue) := by
  unfold cmdCacheInvalidate
  split
  next zero => omega
  next one => omega
  next => rfl

/-! ### CACHE_PROBE -/

theorem exec_cacheProbe {s : State} (h : s.Ready) (tag segment paddr : Byte) (index : Word16) :
    exec (.cacheProbe tag segment paddr index) s = .next (State.finish tag (cmdCacheProbe segment paddr index s)) :=
  h.execute_eq tag _

/-- A probe of a segment and an address in range answers what the cache holds under the key (R164). -/
theorem cmdCacheProbe_eq {segment paddr : Byte} {g : Seg} {pa : Addr} (hg : segOf segment = some g)
    (hpa : addrOf paddr = some pa) (index : Word16) (s : State) :
    cmdCacheProbe segment paddr index s =
      (s, reply .ok
        (match lookup s.cache ⟨g, pa, index⟩ with
        | some v => [0x01#8, v, byteOf (s.cache.findIdx fun l => l.key == ⟨g, pa, index⟩), byteOf s.cache.length]
        | none => [0x00#8, 0x00#8, 0x00#8, byteOf s.cache.length])) := by
  simp only [cmdCacheProbe, hg, hpa]
  cases lookup s.cache ⟨g, pa, index⟩ <;> rfl

/-- Settles O34: the lines of a target are those a drop takes away, and the first line of a key is the one a probe finds. -/
theorem cacheCommandsAnswer : Obligations.CacheCommandsAnswer := by
  refine ⟨fun tag slot s ready => ?_, fun tag segment paddr index s ready => ?_⟩
  · simp only [exec_cacheInvalidate ready]
    refine ⟨?_, fun i hi valid => ?_, fun invalid => ?_, fun scope hscope => ?_⟩
    · rw [cmdCacheInvalidate_all, State.finish_reply, byteOf]
    · simp only [cmdCacheInvalidate_target hi valid, State.finish_reply, byteOf, dropTarget_eq, decide_not]
    · rw [cmdCacheInvalidate_badSlot invalid, State.finish_replyCode]
    · rw [cmdCacheInvalidate_badValue hscope, State.finish_replyCode]
  · simp only [exec_cacheProbe ready]
    refine ⟨fun hsegment => ?_, fun g hg => ⟨fun outside => ?_, fun pa low high hpa => ?_⟩⟩
    · simp only [cmdCacheProbe, (segOf_eq_none_iff segment).mpr hsegment, State.finish_replyCode]
    · simp only [cmdCacheProbe, segOf_of_toNat_eq hg, addrOf_eq_none outside, State.finish_replyCode]
    · subst hpa
      rw [cmdCacheProbe_eq (segOf_of_toNat_eq hg) (addrOf_setWidth low high), State.finish_reply]
      refine ⟨fun n v held first => ?_, fun absent => ?_⟩
      · rw [lookup_eq_of_first held first, findIdx_eq_of_first held first]
        rfl
      · rw [(lookup_eq_none_iff _ _).mpr absent]
        rfl

end Sys2Proof.Machine
end

section
/-! PROOFS. STATUS and SET_LIMITS: what the three operands of SET_LIMITS say, when its four checks pass, and the ALERT# line after
it (R179, R180, R197, R198). -/

namespace Sys2Proof.Machine

/-! ### Payload bytes of STATUS -/

/-- An address is carried in the lower bits of its byte. -/
theorem byteOf_addr (a : Addr) : byteOf a.toNat = a.setWidth 8 := BitVec.ofNat_toNat 8 a

/-! ### Operands of SET_LIMITS -/

/-- A number is read where its byte is in range, and is then the byte's own value (R196). -/
theorem numberOf_eq_some_iff_toNat {lo hi : Nat} (b : Byte) (n : Nat) :
    numberOf lo hi b = some n ↔ (lo ≤ b.toNat ∧ b.toNat ≤ hi) ∧ b.toNat = n := by
  simp only [numberOf, Option.ite_none_right_eq_some, Option.some.injEq]

/-- A byte that is 0 or 1 says yes exactly where it is 1 (R206). -/
theorem boolOf_of_le_one {b : Byte} (h : b.toNat ≤ 1) : boolOf b = some (b == 1#8) := by
  revert b
  decide

/-! ### STATUS and SET_LIMITS -/

theorem exec_status {s : State} (h : s.Ready) (tag : Byte) :
    exec (.status tag) s = .next (State.finish tag (cmdStatus s)) := h.execute_eq tag _

theorem exec_setLimits {s : State} (h : s.Ready) (tag hold idle alert : Byte) :
    exec (.setLimits tag hold idle alert) s = .next (State.finish tag (cmdSetLimits hold idle alert s)) := h.execute_eq tag _

/-- The four checks of SET_LIMITS: each operand is in its range, and the idle limit is above the hold limit (R198). -/
def LimitsAccepted (hold idle alert : Byte) : Prop :=
  2 ≤ hold.toNat ∧ hold.toNat ≤ 100 ∧ 10 ≤ idle.toNat ∧ idle.toNat ≤ 250 ∧ alert.toNat ≤ 1 ∧ hold.toNat < idle.toNat

/-- Operands that pass the four checks are set together (R198). -/
theorem cmdSetLimits_ok {hold idle alert : Byte} (h : LimitsAccepted hold idle alert) (s : State) :
    cmdSetLimits hold idle alert s =
      ({ s with holdLimit := hold.toNat, idleLimit := idle.toNat, alertEnable := alert == 1#8 }, replyCode .ok) := by
  obtain ⟨holdLow, holdHigh, idleLow, idleHigh, flag, above⟩ := h
  simp only [cmdSetLimits, (numberOf_eq_some_iff_toNat hold _).mpr ⟨⟨holdLow, holdHigh⟩, rfl⟩,
    (numberOf_eq_some_iff_toNat idle _).mpr ⟨⟨idleLow, idleHigh⟩, rfl⟩, boolOf_of_le_one flag, if_neg above.not_ge]

/-- Operands that fail one of the four checks change nothing (R198). -/
theorem cmdSetLimits_badValue {hold idle alert : Byte} (h : ¬LimitsAccepted hold idle alert) (s : State) :
    cmdSetLimits hold idle alert s = (s, replyCode .badValue) := by
  unfold cmdSetLimits
  split
  next i j a holdRead idleRead alertRead =>
    obtain ⟨⟨holdLow, holdHigh⟩, rfl⟩ := (numberOf_eq_some_iff_toNat hold _).mp holdRead
    obtain ⟨⟨idleLow, idleHigh⟩, rfl⟩ := (numberOf_eq_some_iff_toNat idle _).mp idleRead
    have flag : alert.toNat ≤ 1 := by
      by_contra large
      have unknown := (boolOf_eq_none_iff alert).mpr (not_le.mp large)
      exact Option.some_ne_none a (alertRead.symm.trans unknown)
    have notAbove : idle.toNat ≤ hold.toNat :=
      not_lt.mp fun above => h ⟨holdLow, holdHigh, idleLow, idleHigh, flag, above⟩
    exact if_pos notAbove
  next => rfl

/-- ALERT# is low exactly while the log holds an entry and alerting is enabled (R179, R180). -/
theorem State.alertLow_iff (s : State) : s.alertLow = true ↔ s.log ≠ [] ∧ s.alertEnable = true := by
  simp [State.alertLow]

/-- Settles O22: STATUS is its reply; SET_LIMITS splits on its four checks, and ALERT# is read off the enable it leaves. -/
theorem statusAndLimits : Obligations.StatusAndLimits := by
  refine ⟨fun tag s ready => ?_, fun tag hold idle alert s ready => ⟨fun accepted => ⟨?_, ?_⟩, fun refused => ⟨?_, rfl⟩⟩⟩
  · rw [exec_status ready, cmdStatus, State.finish_reply, wordBytes, hiByte_eq_extract, loByte_eq_setWidth,
      byteOf_addr]
    rfl
  · rw [exec_setLimits ready, cmdSetLimits_ok accepted]
    rfl
  · rw [State.alertLow_iff]
    simp only [State.answered, beq_iff_eq]
  · rw [exec_setLimits ready, cmdSetLimits_badValue refused, State.finish_replyCode]

end Sys2Proof.Machine
end

section
/-! PROOFS. What a command keeps whatever it does: the log grows at its tail, the pool, the cache and the buffers stay within their
bounds, and the tables, the limits and the queue of commands stay as they are (R78, R150, R166, R173, R183). -/

namespace Sys2Proof.Machine

/-! ### Every command answers a state -/

/-- Settles O1: a step runs the command at the front. -/
theorem stepRunsFrontCommand : Obligations.StepRunsFrontCommand := fun _ _ _ => rfl

/-- Every command answers a next state: none stops the part (log entry 4). -/
theorem exec_total (c : Instr) (s : State) : ∃ t, exec c s = .next t := by
  cases c
  case badCommand code tag =>
    change ∃ t, execBadCommand code tag s = .next t
    unfold execBadCommand State.execute
    split <;> exact ⟨_, rfl⟩
  case badLength frame overrun =>
    change ∃ t, execBadLength frame overrun s = .next t
    unfold execBadLength State.execute
    split <;> exact ⟨_, rfl⟩
  all_goals exact ⟨_, rfl⟩

/-! ### The log -/

/-- The three items of the log (R166, R173). -/
structure LogPart where
  entries : List Entry
  next : Word16
  lost : Nat

/-- The log of a state. -/
def State.logPart (s : State) : LogPart := ⟨s.log, s.nextSeq, s.lost⟩

/-- An append as the log alone sees it (R173). -/
def LogPart.add (l : LogPart) (e : Entry) : LogPart :=
  if l.entries.length < Config.logSize then
    { l with entries := l.entries ++ [{ e with seqNumber := l.next }], next := l.next + 1#16 }
  else { l with lost := min Config.countMax (l.lost + 1) }

theorem State.logPart_append (s : State) (e : Entry) : (s.append e).logPart = s.logPart.add e := by
  by_cases room : s.log.length < Config.logSize <;> simp only [State.append, LogPart.add, State.logPart, room, if_true, if_false]

/-- The invariant of the log as the log alone sees it (R166, R173, R175). -/
def LogPart.Ok (l : LogPart) : Prop :=
  l.entries.length ≤ Config.logSize ∧ l.lost ≤ Config.countMax ∧ (l.entries = [] → l.lost = 0) ∧
  ∀ k : Fin l.entries.length, l.entries[k].seqNumber = l.next - BitVec.ofNat 16 (l.entries.length - k.val)

theorem State.logOk_iff (s : State) : s.LogOk ↔ s.logPart.Ok := Iff.rfl

/-- An append keeps the log in order (R166, R173). -/
theorem LogPart.Ok.add {l : LogPart} (h : l.Ok) (e : Entry) : (l.add e).Ok := by
  obtain ⟨size, lost, empty, order⟩ := h
  unfold LogPart.add
  split
  next room =>
    refine ⟨by simpa using room, lost, by simp, fun k => ?_⟩
    have hk : k.val ≤ l.entries.length := by have := k.isLt; simp at this; omega
    simp only [Fin.getElem_fin, List.length_append, List.length_singleton]
    rw [List.getElem_append]
    split
    next before =>
      have old := order ⟨k, before⟩
      simp only [Fin.getElem_fin] at old
      have : BitVec.ofNat 16 (l.entries.length + 1 - k.val) = BitVec.ofNat 16 (l.entries.length - k.val) + 1#16 := by
        rw [show l.entries.length + 1 - k.val = l.entries.length - k.val + 1 by omega, BitVec.ofNat_add]
      rw [old, this]
      ring
    next last =>
      have : l.entries.length + 1 - k.val = 1 := by omega
      simp [this]
  next full =>
    refine ⟨size, Nat.min_le_left _ _, fun empty => absurd ?_ full, order⟩
    simp [show l.entries = [] from empty, Config.logSize]

/-- One log comes from another by appends. -/
def LogPart.Grows (a b : LogPart) : Prop := ∃ es : List Entry, b = es.foldl LogPart.add a

theorem LogPart.Grows.refl (a : LogPart) : a.Grows a := ⟨[], rfl⟩

theorem LogPart.Grows.trans {a b c : LogPart} (h : a.Grows b) (k : b.Grows c) : a.Grows c := by
  obtain ⟨es, rfl⟩ := h
  obtain ⟨fs, rfl⟩ := k
  exact ⟨es ++ fs, by rw [List.foldl_append]⟩

theorem LogPart.grows_add (a : LogPart) (e : Entry) : a.Grows (a.add e) := ⟨[e], rfl⟩

/-- Appends keep the log in order. -/
theorem LogPart.Grows.ok {a b : LogPart} (h : a.Grows b) (ok : a.Ok) : b.Ok := by
  obtain ⟨es, rfl⟩ := h
  induction es generalizing a with
  | nil => exact ok
  | cons e es ih => exact ih (ok.add e)

/-- Appends keep the entries in front. -/
theorem LogPart.Grows.entries {a b : LogPart} (h : a.Grows b) : ∃ new, b.entries = a.entries ++ new := by
  obtain ⟨es, rfl⟩ := h
  induction es generalizing a with
  | nil => exact ⟨[], by simp⟩
  | cons e es ih =>
    obtain ⟨new, hnew⟩ := ih (a := a.add e)
    rw [List.foldl_cons, hnew]
    unfold LogPart.add
    split
    · exact ⟨_, List.append_assoc _ _ _⟩
    · exact ⟨new, rfl⟩

/-! ### The records in use -/

/-- The four lists, written out. -/
theorem State.lists_toList (s : State) : s.lists.toList = [s.list 0, s.list 1, s.list 2, s.list 3] := by
  apply List.ext_getElem (by simp)
  intro n h _
  have : n < 4 := by simpa using h
  interval_cases n <;> rfl

/-- A number summed over the four lists. -/
def State.sumLists (s : State) (f : List Record → Nat) : Nat := f (s.list 0) + f (s.list 1) + f (s.list 2) + f (s.list 3)

/-- Writing one list changes the sum by that list alone. -/
theorem State.sumLists_setList (s : State) (g : Seg) (l : List Record) (f : List Record → Nat) :
    (s.setList g l).sumLists f + f (s.list g) = s.sumLists f + f l := by
  fin_cases g <;> simp [State.sumLists, State.list_setList] <;> omega

/-- The records in use are those of the lists and the OPEN one (R78). -/
theorem State.inUse_eq (s : State) : s.inUse = s.sumLists List.length + s.openRecord.toList.length := by
  simp [State.inUse, State.records, State.lists_toList, State.sumLists, Nat.add_assoc]

/-- The listed records of a slot and an incarnation (R10). -/
theorem State.listed_eq (s : State) (i : Slot) (inc : Byte) : s.listed i inc = s.sumLists (·.countP (·.belongs i inc)) := by
  simp [State.listed, State.lists_toList, State.sumLists, Nat.add_assoc]

/-- The sum depends on the lists alone. -/
theorem State.sumLists_congr {s t : State} (h : t.lists = s.lists) (f : List Record → Nat) : t.sumLists f = s.sumLists f := by
  simp [State.sumLists, State.list, h]

/-- Writing one list changes the number in use by that list alone. -/
theorem State.inUse_setList (s : State) (g : Seg) (l : List Record) :
    (s.setList g l).inUse + (s.list g).length = s.inUse + l.length := by
  have := s.sumLists_setList g l List.length
  simp only [State.inUse_eq, State.setList_openRecord]
  omega

/-- The number in use depends on the lists and the OPEN record alone. -/
theorem State.inUse_congr {s t : State} (h : t.lists = s.lists) (k : t.openRecord = s.openRecord) : t.inUse = s.inUse := by
  simp [State.inUse_eq, State.sumLists_congr h, k]

/-! ### The lines -/

/-- At most 128 lines with keys all different (R150, R151). -/
def LinesFit (c : List Line) : Prop := c.length ≤ Config.cacheLines ∧ (c.map (·.key)).Nodup

theorem State.cacheOk_iff (s : State) : s.CacheOk ↔ LinesFit s.cache := Iff.rfl

theorem LinesFit.sublist {c d : List Line} (h : LinesFit c) (sub : d.Sublist c) : LinesFit d :=
  ⟨sub.length_le.trans h.1, h.2.sublist (sub.map _)⟩

theorem LinesFit.dropKey {c : List Line} (h : LinesFit c) (k : Key) : LinesFit (dropKey c k) :=
  h.sublist List.filter_sublist

theorem LinesFit.dropTarget {c : List Line} (h : LinesFit c) (g : Seg) (pa : Addr) : LinesFit (dropTarget c g pa) :=
  h.sublist List.filter_sublist

/-- No line of a key is left when the key is dropped. -/
theorem not_mem_keys_dropKey (c : List Line) (k : Key) : k ∉ (dropKey c k).map (·.key) := by
  simp [Machine.dropKey]

/-- A line that is there may move to the front (R151). -/
theorem LinesFit.toFront {c : List Line} (h : LinesFit c) {k : Key} (there : (lookup c k).isSome = true) (v : Byte) :
    LinesFit (toFront c k v) := by
  obtain ⟨l, mem, rfl⟩ := (lookup_isSome_iff c k).mp there
  have shorter : (Machine.dropKey c l.key).length < c.length :=
    List.length_filter_lt_length_iff_exists.mpr ⟨l, mem, by simp⟩
  refine ⟨?_, ?_⟩
  · have := h.1
    simp only [Machine.toFront, List.length_cons]
    omega
  · simp only [Machine.toFront, List.map_cons]
    exact List.nodup_cons.mpr ⟨not_mem_keys_dropKey c l.key, (h.dropKey l.key).2⟩

theorem LinesFit.updateLine {c : List Line} (h : LinesFit c) (k : Key) (v : Byte) : LinesFit (updateLine c k v) := by
  unfold Machine.updateLine
  split
  next there => exact h.toFront there v
  next => exact h

/-- A key without a line may get one at the front (R155). -/
theorem LinesFit.allocateLine {c : List Line} (h : LinesFit c) {k : Key} (absent : ¬(lookup c k).isSome = true) (v : Byte) :
    LinesFit (allocateLine c k v) := by
  rw [lookup_isSome_iff] at absent
  refine ⟨by simp [Machine.allocateLine, Config.cacheLines], ?_⟩
  simp only [Machine.allocateLine, List.map_cons]
  refine List.nodup_cons.mpr ⟨fun mem => ?_, h.2.sublist ((List.take_sublist _ _).map _)⟩
  obtain ⟨l, hl, rfl⟩ := List.mem_map.mp mem
  exact absent ⟨l, List.mem_of_mem_take hl, rfl⟩

/-! ### Failures and discards in the words of the claims -/

/-- A route that fails, in the words of the claims (R41, R65, R93). -/
theorem State.faultRoute_eq (s : State) (r : Record) :
    { s.faultRoute r.slot r.incarnation with cache := dropTarget s.cache r.segment r.paddr } = s.routeFailed r := by
  have unfollowed (c : Context) :
      (if c.slot = r.slot then { c with follow := false } else c) =
        { c with follow := c.follow && decide (c.slot ≠ r.slot) } := by
    by_cases h : c.slot = r.slot <;> simp [h]
  unfold State.faultRoute State.discardRoute State.routeFailed
  cases ho : s.openRecord with
  | none => simp [State.onContext, State.setRuntime, State.slotRuntime, Record.belongs, dropTarget_eq, unfollowed]
  | some x =>
    cases hb : x.belongs r.slot r.incarnation <;>
      have gone : (x.slot == r.slot && x.incarnation == r.incarnation) = _ := hb <;>
      simp only [gone, hb, Option.any_some, State.onContext, State.setRuntime, State.slotRuntime, dropTarget_eq, unfollowed,
        Option.map_map, if_true, if_false, Bool.false_eq_true, Bool.or_true, Bool.or_false] <;>
      rfl

/-- The failure of a record, in the words of the claims (R93 to R95). -/
theorem State.failRecord_eq (s : State) (r : Record) (k : Kind) (i : Option Word16) (a : Byte) (f : Bool) :
    s.failRecord r k i a f = s.afterFailure r k i a f := by
  unfold State.failRecord State.afterFailure
  by_cases current : (s.slotRuntime r.slot).incarnation = r.incarnation
  · have same : s.countRoute r.slot r.incarnation =
        s.records.countP fun x => x.slot == r.slot && x.incarnation == r.incarnation := rfl
    simp only [current, beq_self_eq_true, if_true, ← same]
    rw [← State.faultRoute_eq]
    simp
    rfl
  · simp only [current, beq_eq_false_iff_ne.mpr current, if_false, dropTarget_eq]
    rfl

/-- A bulk discard, in the words of the claims (R97, R99, R101). -/
theorem State.bulkDiscard_eq (s : State) (g : Seg) (c : DiscardCause) :
    s.bulkDiscard g c = (s.discarded g c.value).grantRecord := by
  unfold State.bulkDiscard State.discarded
  have opened : (s.openRecord.filter (·.segment == g)).isSome = s.openRecord.any fun x => x.segment == g := by
    cases s.openRecord with
    | none => rfl
    | some x => cases h : x.segment == g <;> simp [Option.filter, h]
  simp only [opened]
  cases s.openRecord.any fun x => x.segment == g <;>
    simp only [State.onContext, State.mapRuntime, countFor, if_true, if_false, Bool.false_eq_true, Bool.toNat_true, Bool.toNat_false,
      Bool.or_true, Bool.or_false, Option.map_id'] <;>
    rfl

end Sys2Proof.Machine
end

section
/-! PROOFS. What every event but a reset and a management command keeps, said once for each shared operation: the tables, the limits
and the queue of commands stay, the log grows by appends, and the pool, the cache and the buffers stay within their bounds. -/

namespace Sys2Proof.Machine

/-- What the events of the port, the segments and the timers keep. -/
structure State.Runs (s t : State) : Prop where
  fixed : t.power = s.power ∧ t.mga = s.mga ∧ t.active = s.active ∧ t.staged = s.staged ∧ t.generation = s.generation ∧
    t.dirty = s.dirty ∧ t.holdLimit = s.holdLimit ∧ t.idleLimit = s.idleLimit ∧ t.alertEnable = s.alertEnable ∧
    t.pending = s.pending
  log : s.logPart.Grows t.logPart
  cache : s.CacheOk → t.CacheOk
  pool : s.PoolOk → t.PoolOk
  frame : s.FrameOk → t.FrameOk

/-- The tables, the limits, the log and the frame are as before. -/
@[simp] def State.Steady (s t : State) : Prop :=
  t.power = s.power ∧ t.mga = s.mga ∧ t.active = s.active ∧ t.staged = s.staged ∧ t.generation = s.generation ∧
  t.dirty = s.dirty ∧ t.holdLimit = s.holdLimit ∧ t.idleLimit = s.idleLimit ∧ t.alertEnable = s.alertEnable ∧
  t.pending = s.pending ∧ t.log = s.log ∧ t.nextSeq = s.nextSeq ∧ t.lost = s.lost ∧ t.frame = s.frame ∧
  t.buffer = s.buffer ∧ t.response.payload = s.response.payload

namespace State.Runs

variable {s t u : State}

theorem refl (s : State) : s.Runs s :=
  ⟨⟨rfl, rfl, rfl, rfl, rfl, rfl, rfl, rfl, rfl, rfl⟩, .refl _, id, id, id⟩

theorem trans (h : s.Runs t) (k : t.Runs u) : s.Runs u where
  fixed := by
    obtain ⟨h1, h2, h3, h4, h5, h6, h7, h8, h9, h10⟩ := h.fixed
    obtain ⟨k1, k2, k3, k4, k5, k6, k7, k8, k9, k10⟩ := k.fixed
    exact ⟨k1.trans h1, k2.trans h2, k3.trans h3, k4.trans h4, k5.trans h5, k6.trans h6, k7.trans h7, k8.trans h8,
      k9.trans h9, k10.trans h10⟩
  log := h.log.trans k.log
  cache := k.cache ∘ h.cache
  pool := k.pool ∘ h.pool
  frame := k.frame ∘ h.frame

/-- An operation that leaves the log and the frame alone, takes no record and keeps the lines in order. -/
theorem quiet (steady : s.Steady t) (cache : LinesFit s.cache → LinesFit t.cache) (pool : t.inUse ≤ s.inUse) : s.Runs t := by
  obtain ⟨h1, h2, h3, h4, h5, h6, h7, h8, h9, h10, log, next, lost, frame, buffer, payload⟩ := steady
  refine ⟨⟨h1, h2, h3, h4, h5, h6, h7, h8, h9, h10⟩, ?_, cache, pool.trans, ?_⟩
  · rw [show t.logPart = s.logPart by simp [State.logPart, log, next, lost]]
    exact .refl _
  · simp [State.FrameOk, frame, buffer, payload]

/-- An operation that touches neither the log, the cache, the records nor the frame. -/
theorem same (h : s.Steady t ∧ t.cache = s.cache ∧ t.lists = s.lists ∧ t.openRecord = s.openRecord) : s.Runs t := by
  obtain ⟨steady, cache, lists, opened⟩ := h
  exact .quiet steady (cache ▸ id) (le_of_eq (State.inUse_congr lists opened))

/-- A choice between two operations. -/
theorem ite {c : Prop} [Decidable c] (h : c → s.Runs t) (k : ¬c → s.Runs u) : s.Runs (if c then t else u) := by
  split
  next yes => exact h yes
  next no => exact k no

end State.Runs

variable (s : State)

/-! ### The shared operations -/

theorem State.runs_append (e : Entry) : s.Runs (s.append e) where
  fixed := by simp
  log := by rw [State.logPart_append]; exact LogPart.grows_add _ _
  cache := by simp [State.CacheOk]
  pool := (le_of_eq (State.inUse_congr (by simp) (by simp))).trans
  frame := by simp [State.FrameOk]

theorem State.runs_setMode (g : Seg) (m : EngineMode) : s.Runs (s.setMode g m) := .same (by simp)

theorem State.runs_setBusy (g : Seg) (t : Transaction) : s.Runs (s.setBusy g t) := .same (by simp)

theorem State.runs_leaveBusy (g : Seg) (m : EngineMode) : s.Runs (s.leaveBusy g m) := .same (by simp)

theorem State.runs_onContext (f : Context → Context) : s.Runs (s.onContext f) := .same (by simp)

theorem State.runs_setRuntime (i : Slot) (r : Runtime) : s.Runs (s.setRuntime i r) := .same (by simp)

theorem State.runs_setPointer (i : Slot) (p : Option Word16) : s.Runs (s.setPointer i p) := .same (by simp)

/-- A list may be written with one no longer. -/
theorem State.runs_setList (g : Seg) (l : List Record) (h : l.length ≤ (s.list g).length) : s.Runs (s.setList g l) :=
  .quiet (by simp) (by simp) (by have := s.inUse_setList g l; omega)

theorem State.runs_offer (g : Seg) (i : Slot) (k : Key) (b : Byte) : s.Runs (s.offer g i k b) := by
  refine .quiet (by simp) (fun h => ?_) (le_of_eq (State.inUse_congr (by simp) (by simp)))
  unfold State.offer
  split_ifs with suppressed there new
  · exact h.dropKey k
  · exact h.toFront there b
  · exact h.allocateLine there b
  · exact h

theorem State.runs_cacheWritten (g : Seg) (k : Option Key) (b : Byte) : s.Runs (s.cacheWritten g k b) := by
  refine .quiet (by simp) (fun h => ?_) (le_of_eq (State.inUse_congr (by simp) (by simp)))
  cases k with
  | none => exact h
  | some k =>
    simp only [State.cacheWritten]
    split
    · exact h.dropKey k
    · exact h.updateLine k b

theorem State.runs_cacheUnsure (k : Option Key) : s.Runs (s.cacheUnsure k) := by
  refine .quiet (by simp) (fun h => ?_) (le_of_eq (State.inUse_congr (by simp) (by simp)))
  cases k with
  | none => exact h
  | some k => exact h.dropKey k

/-- A posted byte is accepted into the OPEN record, or into a free one. -/
theorem State.runs_acceptPosted (c : Context) (r : Record) (b : Byte)
    (room : s.openRecord.isSome = true ∨ s.inUse < Config.poolSize) : s.Runs (s.acceptPosted c r b) := by
  rw [State.acceptPosted_eq, State.followed]
  refine State.Runs.trans (t := { s with
      openRecord := some r, answer := .ack,
      cache := if c.route.width = IndexWidth.raw then s.cache else updateLine s.cache (c.key (c.index.getD 0#16)) b,
      context := some c.counted }) ?_ (.ite (fun _ => State.runs_setPointer _ _ _) fun _ => .refl _)
  refine ⟨⟨rfl, rfl, rfl, rfl, rfl, rfl, rfl, rfl, rfl, rfl⟩, .refl _, fun h => ?_, fun h => ?_, id⟩
  · change LinesFit (if _ then _ else _)
    split
    · exact h
    · exact LinesFit.updateLine h _ _
  · simp only [State.PoolOk, State.inUse_eq, State.sumLists, State.list] at h room ⊢
    cases ho : s.openRecord <;> simp [ho] at h room ⊢ <;> omega

theorem State.runs_grantRecord : s.Runs s.grantRecord := by
  unfold State.grantRecord
  split
  next b c _ _ =>
    refine .ite (fun room => ?_) fun _ => .refl s
    exact State.Runs.trans (t := { s with recordRequest := none }) (.same (by simp)) (State.runs_acceptPosted _ _ _ _ (.inr room))
  next => exact .refl s

theorem State.runs_arbiter (g : Seg) : s.Runs (s.arbiter g) := by
  unfold State.arbiter
  split
  next =>
    split
    next r _ => exact (s.runs_setMode g _).trans (State.runs_onContext _ _)
    next =>
      split
      next r rest h =>
        refine .ite (fun _ => ?_) fun _ => .refl s
        exact (s.runs_setList g _ (by simp [h])).trans (State.runs_setMode _ g _)
      next => exact .refl s
  next => exact .refl s

theorem State.runs_failHold : s.Runs s.failHold := .same (by simp)

theorem State.runs_nackHeldByte : s.Runs s.nackHeldByte := .same (by simp)

theorem State.runs_dropRequest : s.Runs s.dropRequest := .same (by simp)

/-- Records taken away from lists and from the OPEN place. -/
theorem State.inUse_le {s t : State} (lists : ∀ g, (t.list g).length ≤ (s.list g).length)
    (opened : t.openRecord.toList.length ≤ s.openRecord.toList.length) : t.inUse ≤ s.inUse := by
  have h0 := lists 0
  have h1 := lists 1
  have h2 := lists 2
  have h3 := lists 3
  simp only [State.inUse_eq, State.sumLists]
  omega

theorem State.runs_routeFailed (r : Record) : s.Runs (s.routeFailed r) := by
  refine .quiet (by simp [State.routeFailed]) (fun h => ?_) (State.inUse_le (fun g => ?_) ?_)
  · exact h.sublist List.filter_sublist
  · simp [State.routeFailed, State.list, List.length_filter_le]
  · simp only [State.routeFailed]
    split
    · simp
    · exact le_rfl

theorem State.runs_failRecord (r : Record) (k : Kind) (i : Option Word16) (a : Byte) (f : Bool) :
    s.Runs (s.failRecord r k i a f) := by
  rw [State.failRecord_eq, State.afterFailure]
  refine .ite (fun _ => (s.runs_routeFailed r).trans (State.runs_append _ _)) fun _ => .trans ?_ (State.runs_append _ _)
  exact .quiet (by simp) (fun h => h.sublist List.filter_sublist) (le_of_eq rfl)

theorem State.runs_discarded (g : Seg) (cause : Byte) : s.Runs (s.discarded g cause) := by
  have emptied (u : State) (h : ∀ h, (u.list h).length ≤ (s.list h).length)
      (o : u.openRecord.toList.length ≤ s.openRecord.toList.length) (steady : s.Steady u) (cache : u.cache = s.cache) :
      s.Runs u := .quiet steady (cache ▸ id) (State.inUse_le h o)
  unfold State.discarded
  dsimp only
  refine .ite (fun _ => ?_) fun _ => .trans ?_ (State.runs_append _ _)
  all_goals
    refine emptied _ (fun h => ?_) ?_ (by simp) rfl
    · change ((s.setList g []).list h).length ≤ _
      rw [State.list_setList]
      split <;> simp
    · dsimp only
      split <;> simp

theorem State.runs_bulkDiscard (g : Seg) (c : DiscardCause) : s.Runs (s.bulkDiscard g c) := by
  rw [State.bulkDiscard_eq]
  exact (s.runs_discarded g _).trans (State.runs_grantRecord _)

theorem State.runs_lateOutcome (t : Transaction) (r : Request) (d : Bool) : s.Runs (s.lateOutcome t r d) := by
  unfold State.lateOutcome
  exact .trans (s.runs_cacheUnsure _) (.ite (fun _ => State.runs_append _ _) fun _ => .refl _)

/-! ### The engines' operations -/

theorem State.runs_endEngine (g : Seg) : s.Runs (s.endEngine g) := .same (by simp)

theorem State.runs_reportReadAck : s.Runs s.reportReadAck := .same (by simp)

theorem State.runs_handByte (b : Byte) : s.Runs (s.handByte b) := .same (by simp)

theorem State.runs_ackHeldByte : s.Runs s.ackHeldByte := .same (by simp)

theorem State.runs_refuseOpening (g : Seg) (t : Transaction) (r : Request) : s.Runs (s.refuseOpening g t r) := by
  unfold State.refuseOpening
  exact .trans (s.runs_setBusy g _) (.ite (fun _ => .trans (State.runs_cacheUnsure _ _) (State.runs_nackHeldByte _)) fun _ => .refl _)

theorem State.runs_answerOpening (g : Seg) (t : Transaction) (ack : Bool) : s.Runs (s.answerOpening g t ack) := by
  unfold State.answerOpening
  split
  · split
    · exact s.runs_setBusy g _
    · exact .refl s
  · exact .ite (fun _ => s.runs_setBusy g _) fun _ => s.runs_refuseOpening g t _
  · exact s.runs_setBusy g _

theorem State.runs_answerReadAddress (g : Seg) (t : Transaction) (ack : Bool) : s.Runs (s.answerReadAddress g t ack) := by
  unfold State.answerReadAddress
  split
  · exact .refl s
  · exact .ite (fun _ => (s.runs_setBusy g _).trans (State.runs_reportReadAck _)) fun _ => s.runs_setBusy g _
  · exact s.runs_setBusy g _

theorem State.runs_answerData (g : Seg) (t : Transaction) (ack : Bool) : s.Runs (s.answerData g t ack) := by
  unfold State.answerData
  split
  · split
    · exact s.runs_setBusy g _
    · exact .refl s
  · refine .ite (fun _ => ?_) fun _ => ?_
    · exact (s.runs_setBusy g _).trans ((State.runs_cacheWritten _ _ _ _).trans (State.runs_ackHeldByte _))
    · exact (s.runs_setBusy g _).trans ((State.runs_cacheUnsure _ _).trans (State.runs_nackHeldByte _))
  · exact (s.runs_setBusy g _).trans (State.runs_lateOutcome _ _ _ _)

theorem State.runs_recordSuccess (g : Seg) (r : Record) (rest : List Record) (h : s.list g = r :: rest) :
    s.Runs (s.recordSuccess g r rest) := by
  unfold State.recordSuccess
  exact (s.runs_setList g rest (by simp [h])).trans (.ite (fun _ => State.runs_setRuntime _ _ _) fun _ => .refl _)

theorem State.runs_reportAttempt (g : Seg) (t : Transaction) : s.Runs (s.reportAttempt g t) := by
  unfold State.reportAttempt
  split
  next => exact .refl s
  next r rest h =>
    have freed : s.Runs (s.setList g rest) := s.runs_setList g rest (by simp [h])
    refine .ite (fun _ => s.runs_recordSuccess g r rest h) fun _ => .ite (fun _ => .ite (fun _ => ?_) fun _ => ?_) fun _ => ?_
    · exact s.runs_setList g _ (by simp [h])
    · exact freed.trans (State.runs_failRecord _ _ _ _ _ _)
    · exact freed.trans (State.runs_failRecord _ _ _ _ _ _)

theorem State.runs_reportStop (g : Seg) (t : Transaction) : s.Runs (s.reportStop g t) := by
  unfold State.reportStop
  split
  · exact s.runs_reportAttempt g t
  · exact .trans (.ite (fun _ => s.runs_failHold) fun _ => .refl s) (State.runs_dropRequest _)
  · exact .ite (fun _ => s.runs_lateOutcome _ _ _) fun _ => .refl s

theorem State.runs_reportFault (g : Seg) (t : Transaction) (k : Kind) (d : Phase) : s.Runs (s.reportFault g t k d) := by
  unfold State.reportFault
  split
  · split
    next r rest h => exact (s.runs_setList g rest (by simp [h])).trans (State.runs_failRecord _ _ _ _ _ _)
    next => exact .refl s
  · exact (s.runs_append _).trans (.trans (.ite (fun _ => State.runs_cacheUnsure _ _) fun _ => .refl _)
      ((State.runs_failHold _).trans (State.runs_dropRequest _)))
  · exact (s.runs_append _).trans (.ite (fun _ => State.runs_lateOutcome _ _ _ _) fun _ => .refl _)

theorem State.runs_segmentFault (g : Seg) (t : Transaction) (k : Kind) (d : Phase) : s.Runs (s.segmentFault g t k d) :=
  (s.runs_reportFault g t k d).trans ((State.runs_leaveBusy _ _ _).trans (State.runs_grantRecord _))

theorem State.runs_abortEngine (g : Seg) : s.Runs (s.abortEngine g) := by
  unfold State.abortEngine
  split
  · split
    · exact .refl s
    · exact .ite (fun _ => s.runs_lateOutcome _ _ _) fun _ => .refl s
    · exact .ite (fun _ => s.runs_lateOutcome _ _ _) fun _ => .refl s
  · exact .refl s

theorem State.runs_completeRecovery (g : Seg) (p : Procedure) (o : Code) : s.Runs (s.completeRecovery g p o) := by
  unfold State.completeRecovery
  exact .ite (fun _ => .same (by simp)) fun _ => .refl s

theorem State.runs_recovered (g : Seg) (p : Procedure) : s.Runs (s.recovered g p) :=
  (s.runs_setMode g _).trans ((State.runs_completeRecovery _ _ _ _).trans (State.runs_arbiter _ _))

theorem State.runs_becomeStuck (g : Seg) (p : Procedure) (c : StuckCause) : s.Runs (s.becomeStuck g p c) := by
  unfold State.becomeStuck
  exact .trans ((s.runs_setMode g _).trans ((State.runs_append _ _).trans (State.runs_completeRecovery _ _ _ _)))
    (.trans (.ite (fun _ => State.runs_failHold _) fun _ => .refl _) (State.runs_bulkDiscard _ _ _))

theorem State.runs_setProcedure (g : Seg) (p : Procedure) : s.Runs (s.setProcedure g p) := .same (by simp)

theorem State.runs_pulseOrFail (g : Seg) (p : Procedure) : s.Runs (s.pulseOrFail g p) := by
  unfold State.pulseOrFail
  exact .ite (fun _ => s.runs_setProcedure g _) fun _ => s.runs_becomeStuck g p _

/-! ### The port's operations -/

theorem State.runs_logDenial (c : Context) : s.Runs (s.logDenial c) := by
  unfold State.logDenial
  exact .ite (fun _ => (s.runs_append _).trans (State.runs_onContext _ _)) fun _ => .refl s

theorem State.runs_nackAddress : s.Runs s.nackAddress := .same (by simp)

theorem State.runs_makeRequest (c : Context) (r : Request) (p : HoldPoint) : s.Runs (s.makeRequest c r p) := by
  unfold State.makeRequest
  exact .trans (t := { s with context := _ }) (.same (by simp)) (.ite (fun _ => State.runs_failHold _) fun _ => State.runs_arbiter _ _)

theorem State.runs_decodeRead (i : Slot) : s.Runs (s.decodeRead i) := by
  have released (c : Context) (r : Request) (p : HoldPoint) : s.Runs ({ s with answer := .released }.makeRequest c r p) :=
    .trans (.same (by simp)) (State.runs_makeRequest _ c r p)
  unfold State.decodeRead
  refine .ite (fun _ => ?_) fun _ => released _ _ _
  dsimp only
  split
  next v hit =>
    refine .quiet (by simp) (fun h => LinesFit.toFront h ?_ v) (le_of_eq rfl)
    split at hit
    · rw [hit]; rfl
    · cases hit
  next => exact released _ _ _

theorem State.runs_decodeRouted (i : Slot) (d : Direction) : s.Runs (s.decodeRouted i d) := by
  unfold State.decodeRouted
  split
  · exact .trans (.ite (fun _ => s.runs_append _) fun _ => .refl s) (State.runs_nackAddress _)
  · split
    · exact .same (by simp)
    · exact s.runs_decodeRead i

theorem State.runs_decodeManagement (d : Direction) : s.Runs (s.decodeManagement d) := by
  cases d
  · exact ⟨by simp, .refl _, id, id, fun h => ⟨by simp [State.decodeManagement], by simp [State.decodeManagement], by
      simp [State.decodeManagement], h.2.2.2⟩⟩
  · exact .same (by simp [State.decodeManagement])

theorem State.runs_refuseByte : s.Runs s.refuseByte := .same (by simp)

theorem State.runs_denyWrite (c : Context) : s.Runs (s.denyWrite c) := by
  unfold State.denyWrite
  have refused := (s.runs_logDenial c).trans (State.runs_refuseByte _)
  dsimp only
  split
  · exact refused.trans (State.runs_endEngine _ _)
  · exact refused

theorem State.runs_handWriteByte (c : Context) (b : Byte) : s.Runs (s.handWriteByte c b) := .same (by simp)

theorem State.runs_deliver (c : Context) : s.Runs (s.deliver c) := .same (by simp)

theorem State.runs_sendFiller : s.Runs s.sendFiller := .same (by simp)

theorem State.runs_readOn (c : Context) : s.Runs (s.readOn c) := .same (by simp)

theorem State.runs_nextReadByte (c : Context) : s.Runs (s.nextReadByte c) := by
  unfold State.nextReadByte
  split
  · exact s.runs_sendFiller
  · refine .ite (fun _ => (s.runs_logDenial c).trans (State.runs_sendFiller _)) fun _ => ?_
    split
    next v hit =>
      refine .quiet (by simp) (fun h => LinesFit.toFront h ?_ v) (le_of_eq rfl)
      split at hit
      · rw [hit]; rfl
      · cases hit
    next => exact .trans (t := { s with sending := none }) (.same (by simp)) (State.runs_makeRequest _ _ _ _)
  · exact .ite (fun _ => s.runs_readOn c) fun _ =>
      (s.runs_logDenial c).trans ((State.runs_sendFiller _).trans (State.runs_endEngine _ _))

theorem State.runs_routedReadAnswer (c : Context) (ack : Bool) : s.Runs (s.routedReadAnswer c ack) := by
  unfold State.routedReadAnswer
  refine .ite (fun _ => (s.runs_deliver c).trans ?_) fun _ => (s.runs_deliver c).trans ?_
  · split
    · exact State.runs_nextReadByte _ _
    · exact .refl _
  · split
    · exact .trans (.same (by simp)) (State.runs_endEngine _ _)
    · exact .same (by simp)

theorem State.runs_releaseRequest (c : Context) (owed : Bool) : s.Runs (s.releaseRequest c owed) := .same (by simp)

theorem State.runs_queueOpen : s.Runs s.queueOpen := by
  unfold State.queueOpen
  split
  next => exact .refl s
  next r h =>
    refine .trans (.trans (t := { s with openRecord := none }.setList r.segment _) ?_ (State.runs_setRuntime _ _ _)) (State.runs_arbiter _ _)
    refine .quiet (by simp) (by simp) ?_
    have grown := { s with openRecord := none }.inUse_setList r.segment (s.list r.segment ++ [{ r with state := .queued }])
    have opened : { s with openRecord := none }.inUse + 1 = s.inUse := by
      simp [State.inUse_eq, h, State.sumLists, State.list]
    have same : { s with openRecord := none }.list r.segment = s.list r.segment := rfl
    simp only [same, List.length_append, List.length_singleton] at grown
    omega

theorem State.runs_closeContext : s.Runs { s with context := none } := .same (by simp)

theorem State.runs_endRouted : s.Runs s.endRouted := by
  unfold State.endRouted
  split
  next => exact .refl s
  next c _ =>
    exact .trans (.ite (fun _ => s.runs_setPointer _ _) fun _ => .refl s)
      (.trans (State.runs_releaseRequest _ c false) ((State.runs_closeContext _).trans (State.runs_queueOpen _)))

theorem State.runs_abandonWork : s.Runs s.abandonWork := by
  unfold State.abandonWork
  split
  next c _ =>
    refine (s.runs_releaseRequest c false).trans ((State.runs_setPointer _ c.slot none).trans ?_)
    exact .quiet (by simp) (by simp) (State.inUse_le (fun _ => le_of_eq rfl) (by simp))
  next =>
    refine .ite (fun _ => ?_) fun _ => .refl s
    exact ⟨⟨rfl, rfl, rfl, rfl, rfl, rfl, rfl, rfl, rfl, rfl⟩, .refl _, id, id, fun h => ⟨by simp, by simp, by simp, h.2.2.2⟩⟩

end Sys2Proof.Machine
end

section
/-! PROOFS. What a command can do, said once: a reset, the end of one, the execution of a management command as a row or at the end of
its frame, or an event that keeps what every event keeps. -/

namespace Sys2Proof.Machine

/-! ### Management rows -/

/-- The levels that the row of a command carries: SEG_ENABLE has those of its own segment alone (R148). -/
def rowLevels (lines : SegSamples) (levels : LineLevels) : MgmtCommand → SegSamples
  | .segEnable _ => sameLevels levels
  | _ => lines

/-- The row of a management command executes it where it can (R187, log entry 5). -/
theorem exec_managementRow (tag : Byte) (lines : SegSamples) (levels : LineLevels) (m : MgmtCommand) (s : State) :
    exec (managementRow tag lines levels m) s = s.execute tag (perform m (rowLevels lines levels m)) := by
  cases m <;> rfl

theorem State.canExecute_iff (s : State) : s.canExecute = true ↔ s.Ready := by
  simp [State.canExecute, State.Ready]

/-- Levels for the rows that sample none. -/
def noLevels : LineLevels := ⟨false, false⟩

/-- Levels of four segments for the rows that sample none. -/
def noSamples : SegSamples := sameLevels noLevels

/-- What a command can lead to. -/
inductive State.StepsTo (s : State) (c : Instr) : State → Prop
  | reset (h : c = .powerOnReset ∨ c = .resetAsserted) : s.StepsTo c s.cleared
  | sampled (as1 as0 : Bool) (h : s.power = .inReset) : s.StepsTo c { s with power := .startup, mga := strapAddress as1 as0 }
  | started (h : s.power = .startup) : s.StepsTo c { s with power := .running }
  | executes (m : MgmtCommand) (tag : Byte) (lines : SegSamples) (h : s.Executes c m) (ready : s.Ready) :
    s.StepsTo c (State.finish tag (perform m lines s))
  | ends (m : MgmtCommand) (tag : Byte) (lines : SegSamples) (next : PortState) (h : s.Executes c m)
    (port : s.port = .upMgmtWrite) :
    s.StepsTo c { State.finish tag (perform m lines s) with port := next, answer := .released, sending := none }
  | runs {t : State} (h : s.Runs t) : s.StepsTo c t

variable {s t : State}

/-- The write of a response of at most 29 bytes of payload, without more, keeps what every event keeps. -/
theorem State.runs_finish (s : State) (tag : Byte) (r : Reply) (h : r.payload.length + 3 ≤ Config.responseBytes) :
    s.Runs (State.finish tag (s, r)) :=
  ⟨⟨rfl, rfl, rfl, rfl, rfl, rfl, rfl, rfl, rfl, rfl⟩, .refl _, id, id, fun _ => ⟨by simp [State.finish],
    by simp [State.finish], by simp [State.finish], h⟩⟩

theorem State.runs_finish_code (s : State) (tag : Byte) (c : Code) : s.Runs (State.finish tag (s, replyCode c)) :=
  s.runs_finish tag _ (show 0 + 3 ≤ Config.responseBytes by decide)

/-- The row of a management command. -/
theorem stepsTo_row (tag : Byte) (lines : SegSamples) (levels : LineLevels) (m : MgmtCommand)
    (h : exec (managementRow tag lines levels m) s = .next t) : s.StepsTo (managementRow tag lines levels m) t := by
  rw [exec_managementRow, State.execute] at h
  cases h
  split
  next ready => exact .executes m tag _ ⟨tag, lines, levels, .inl rfl⟩ (s.canExecute_iff.mp ready)
  next => exact .runs (.refl s)

/-- The end of a sub-transaction, which for a management write is the end of its frame (R46, R187). -/
theorem stepsTo_end {c : Instr} (lines : SegSamples) (next : PortState)
    (row : c = .upstreamStop lines ∨ c = .upstreamRepeatedStart lines ∨ c = .upstreamStart lines) :
    s.StepsTo c (s.endSubTransaction lines next) := by
  have port (u : State) : u.Runs { u with port := next, answer := .released, sending := none } := .same (by simp)
  unfold State.endSubTransaction
  dsimp only
  split
  next mgmt =>
    unfold State.endFrame
    split
    next => exact .runs (port s)
    next =>
      split
      next => 
        have emptied : s.Runs { s with frame := .noFrame, buffer := [] } :=
          ⟨⟨rfl, rfl, rfl, rfl, rfl, rfl, rfl, rfl, rfl, rfl⟩, .refl _, id, id, fun h => ⟨by simp, by simp, by simp, h.2.2.2⟩⟩
        exact .runs (emptied.trans (port _))
      next tag _ => exact .runs ((s.runs_finish_code tag .badLength).trans (port _))
      next tag _ => exact .runs ((s.runs_finish_code tag .badCommand).trans (port _))
      next tag m decoded => exact .ends m tag lines next ⟨tag, lines, lines.seg0, .inr ⟨mgmt, decoded, row⟩⟩ mgmt
  next => exact .runs (s.runs_endRouted.trans (port _))

/-- A START condition (R47). -/
theorem stepsTo_start {c : Instr} (lines : SegSamples) (row : c = .upstreamRepeatedStart lines ∨ c = .upstreamStart lines) :
    s.StepsTo c (s.startCondition lines) := by
  unfold State.startCondition
  split_ifs
  · exact .runs (.refl s)
  · exact .runs (.same (by simp))
  · exact stepsTo_end lines _ (.inr row)

/-- The rows of the two frame errors (R185, R188). -/
theorem State.runs_execute_code {tag : Byte} {c : Code} (h : s.execute tag (fun u => (u, replyCode c)) = .next t) : s.Runs t := by
  cases h
  exact .ite (fun _ => s.runs_finish_code tag c) fun _ => .refl s

/-! ### The events of the port -/

theorem runs_addressDecode {a : Addr} {d : Direction} (h : exec (.addressDecode a d) s = .next t) : s.Runs t := by
  cases h
  refine .ite (fun _ => .ite (fun _ => s.runs_nackAddress) fun _ => .ite (fun _ => s.runs_decodeManagement d) fun _ => ?_)
    fun _ => .refl s
  split
  · exact s.runs_nackAddress
  · exact s.runs_decodeRouted _ d

theorem runs_indexByte {b : Byte} (h : exec (.indexByte b) s = .next t) : s.Runs t := by
  cases h
  split
  · refine .ite (fun _ => .ite (fun _ => .same (by simp)) fun _ => ?_) fun _ => .refl s
    exact .trans (t := { s with answer := _, port := _, context := _ }) (.same (by simp)) (State.runs_setPointer _ _ _)
  · exact .refl s

theorem runs_postedDataByte {b : Byte} (h : exec (.postedDataByte b) s = .next t) : s.Runs t := by
  cases h
  split
  next c _ =>
    refine .ite (fun _ => .ite (fun _ => .same (by simp)) fun _ => .ite (fun _ => s.runs_denyWrite c) fun _ => ?_) fun _ => .refl s
    split
    next r opened =>
      exact .ite (fun _ => s.runs_acceptPosted c _ b (.inl (by simp [opened]))) fun _ => s.runs_refuseByte
    next =>
      exact .ite (fun _ => s.runs_refuseByte) fun _ =>
        .ite (fun room => s.runs_acceptPosted c _ b (.inr room)) fun _ => .same (by simp)
  next => exact .refl s

theorem runs_passDataByte {b : Byte} (h : exec (.passDataByte b) s = .next t) : s.Runs t := by
  cases h
  split
  next c _ =>
    refine .ite (fun _ => .ite (fun _ => .same (by simp)) fun _ => .ite (fun _ => s.runs_denyWrite c) fun _ => ?_) fun _ => .refl s
    split
    next => exact s.runs_handWriteByte c b
    next =>
      exact .ite (fun _ => s.runs_refuseByte) fun _ =>
        .trans (t := { s with answer := _ }) (.same (by simp)) (State.runs_makeRequest _ _ _ _)
  next => exact .refl s

theorem runs_readByteAnswer {ack : Bool} (h : exec (.readByteAnswer ack) s = .next t) : s.Runs t := by
  cases h
  split
  next => exact .refl s
  next =>
    refine .ite (fun _ => .ite (fun _ => .same (by simp)) fun _ => .same (by simp)) fun _ => .ite (fun _ => ?_) fun _ => .refl s
    split
    next c _ => exact .ite (fun _ => s.runs_routedReadAnswer c ack) fun _ => .refl s
    next => exact .refl s

theorem runs_mgmtWriteByte {b : Byte} (h : exec (.mgmtWriteByte b) s = .next t) : s.Runs t := by
  cases h
  refine .ite (fun _ => ?_) fun _ => .refl s
  split
  next => exact .refl s
  next collecting =>
    refine .ite (fun room => ?_) fun full => ?_
    · exact ⟨by simp, .refl _, id, id, fun h => ⟨by simpa using room, by simp [collecting], by simp [collecting], h.2.2.2⟩⟩
    · exact ⟨by simp, .refl _, id, id, fun h => ⟨h.1, by simp, fun _ => le_antisymm h.1 (not_lt.mp full), h.2.2.2⟩⟩
  next => exact .same (by simp)

theorem runs_holdLimitExpires (h : exec .holdLimitExpires s = .next t) : s.Runs t := by
  cases h
  split
  next c _ =>
    split
    next h _ =>
      exact .trans (.trans (.ite (c := (h.point == .passByte && c.request == .taken) = true) (fun _ => .refl s) fun _ =>
        s.runs_append _) (State.runs_releaseRequest _ c _)) (State.runs_failHold _)
    next => exact .refl s
  next => exact .refl s

theorem runs_idleLimitExpires (h : exec .idleLimitExpires s = .next t) : s.Runs t := by
  cases h
  refine .ite (fun _ => .refl s) fun _ => .ite (fun _ => .same (by simp)) fun _ => ?_
  have quieted (u : State) : u.Runs { u with port := .upIdle, answer := .released, sending := none } := .same (by simp)
  exact s.runs_abandonWork.trans ((quieted _).trans (State.runs_append _ _))

/-! ### The events of a segment -/

theorem runs_downstreamAddressAnswer {g : Seg} {ack : Bool} (h : exec (.downstreamAddressAnswer g ack) s = .next t) :
    s.Runs t := by
  cases h
  split
  next x _ =>
    exact .ite (fun _ => .ite (fun _ => s.runs_answerReadAddress g x ack) fun _ => s.runs_answerOpening g x ack) fun _ =>
      .ite (fun _ => s.runs_answerReadAddress g x ack) fun _ => .refl s
  next => exact .refl s

theorem runs_downstreamStart {g : Seg} (h : exec (.downstreamStart g) s = .next t) : s.Runs t := by
  cases h
  split
  next =>
    refine .ite (fun _ => ?_) fun _ => .refl s
    split
    · exact s.runs_setBusy g _
    · exact .refl s
  next => exact .refl s

theorem runs_downstreamByteReceived {g : Seg} {b : Byte} (h : exec (.downstreamByteReceived g b) s = .next t) : s.Runs t := by
  cases h
  split
  next x _ =>
    refine .ite (fun _ => ?_) fun _ => .refl s
    have offered (r : Request) :
        s.Runs (if r.kind = .indexedRead then s.offer g r.slot ⟨r.segment, r.paddr, x.readIndex⟩ b else s) :=
      .ite (fun _ => s.runs_offer _ _ _ _) fun _ => .refl s
    split
    · exact .refl s
    · exact (offered _).trans ((State.runs_setBusy _ g _).trans (State.runs_handByte _ b))
    · exact (offered _).trans (State.runs_setBusy _ g _)
  next => exact .refl s

/-- The events that an engine answers in BUSY with one operation. -/
theorem runs_busyEvent {c : Instr} {g : Seg} (h : exec c s = .next t)
    (event : (∃ ack, c = .downstreamIndexAnswer g ack) ∨ (∃ ack, c = .downstreamDataAnswer g ack) ∨
      c = .downstreamStopMade g ∨ (∃ ninth, c = .segTimeout g ninth) ∨ c = .segConflict g) : s.Runs t := by
  rcases event with ⟨ack, rfl⟩ | ⟨ack, rfl⟩ | rfl | ⟨ninth, rfl⟩ | rfl
  all_goals
    cases h
    split
    case h_2 => exact .refl s
    refine .ite (fun _ => ?_) fun _ => .refl s
  · exact s.runs_answerOpening g _ ack
  · exact s.runs_answerData g _ ack
  · exact (s.runs_reportStop g _).trans ((State.runs_leaveBusy _ g _).trans ((State.runs_grantRecord _).trans
      (State.runs_arbiter _ g)))
  · exact s.runs_segmentFault g _ _ _
  · exact s.runs_segmentFault g _ _ _

theorem runs_retryGapExpires {g : Seg} (h : exec (.retryGapExpires g) s = .next t) : s.Runs t := by
  cases h
  split
  next r rest held =>
    exact .ite (fun _ => (s.runs_setList g _ (by simp [held])).trans (State.runs_arbiter _ g)) fun _ => .refl s
  next => exact .refl s

/-- The events of a recovery procedure. -/
theorem runs_recoveryEvent {c : Instr} {g : Seg} (h : exec c s = .next t)
    (event : (∃ sda, c = .recoveryOpeningSample g sda) ∨ (∃ sda, c = .recoveryPulse g sda) ∨
      (∃ sda, c = .recoveryStopCondition g sda) ∨ c = .recoverySclLow g) : s.Runs t := by
  rcases event with ⟨sda, rfl⟩ | ⟨sda, rfl⟩ | ⟨sda, rfl⟩ | rfl
  all_goals
    cases h
    split
    case h_2 => exact .refl s
  · exact .ite (fun _ => .ite (fun _ => s.runs_setProcedure g _) fun _ => s.runs_setProcedure g _) fun _ => .refl s
  · exact .ite (fun _ => .ite (fun _ => s.runs_setProcedure g _) fun _ => s.runs_pulseOrFail g _) fun _ => .refl s
  · exact .ite (fun _ => .ite (fun _ => s.runs_recovered g _) fun _ => s.runs_pulseOrFail g _) fun _ => .refl s
  · exact s.runs_becomeStuck g _ _

/-- Every command leads to one of these. -/
theorem exec_stepsTo {c : Instr} (h : exec c s = .next t) : s.StepsTo c t := by
  have same : s.StepsTo c s := .runs (.refl s)
  cases c
  case powerOnReset => cases h; exact .reset (.inl rfl)
  case resetAsserted => cases h; exact .reset (.inr rfl)
  case resetReleased as1 as0 =>
    cases h
    split
    next held => exact .sampled as1 as0 held
    next => exact same
  case startupIntervalEnds =>
    cases h
    split
    next starting => exact .started starting
    next => exact same
  case upstreamStart lines => cases h; exact stepsTo_start lines (.inr rfl)
  case upstreamRepeatedStart lines => cases h; exact stepsTo_start lines (.inl rfl)
  case upstreamStop lines =>
    cases h
    split
    next => exact same
    next => exact stepsTo_end lines _ (.inl rfl)
  case addressDecode a d => exact .runs (runs_addressDecode h)
  case indexByte b => exact .runs (runs_indexByte h)
  case postedDataByte b => exact .runs (runs_postedDataByte h)
  case passDataByte b => exact .runs (runs_passDataByte h)
  case readByteAnswer ack => exact .runs (runs_readByteAnswer h)
  case mgmtWriteByte b => exact .runs (runs_mgmtWriteByte h)
  case holdLimitExpires => exact .runs (runs_holdLimitExpires h)
  case idleLimitExpires => exact .runs (runs_idleLimitExpires h)
  case downstreamStart g => exact .runs (runs_downstreamStart h)
  case downstreamAddressAnswer g ack => exact .runs (runs_downstreamAddressAnswer h)
  case downstreamIndexAnswer g ack => exact .runs (runs_busyEvent h (.inl ⟨ack, rfl⟩))
  case downstreamDataAnswer g ack => exact .runs (runs_busyEvent h (.inr (.inl ⟨ack, rfl⟩)))
  case downstreamByteReceived g b => exact .runs (runs_downstreamByteReceived h)
  case downstreamStopMade g => exact .runs (runs_busyEvent h (.inr (.inr (.inl rfl))))
  case retryGapExpires g => exact .runs (runs_retryGapExpires h)
  case segTimeout g ninth => exact .runs (runs_busyEvent h (.inr (.inr (.inr (.inl ⟨ninth, rfl⟩)))))
  case segConflict g => exact .runs (runs_busyEvent h (.inr (.inr (.inr (.inr rfl)))))
  case recoveryOpeningSample g sda => exact .runs (runs_recoveryEvent h (.inl ⟨sda, rfl⟩))
  case recoveryPulse g sda => exact .runs (runs_recoveryEvent h (.inr (.inl ⟨sda, rfl⟩)))
  case recoveryStopCondition g sda => exact .runs (runs_recoveryEvent h (.inr (.inr (.inl ⟨sda, rfl⟩))))
  case recoverySclLow g => exact .runs (runs_recoveryEvent h (.inr (.inr (.inr rfl))))
  case badCommand code tag =>
    change execBadCommand code tag s = .next t at h
    unfold execBadCommand at h
    split at h
    · exact .runs (State.runs_execute_code h)
    · cases h; exact same
  case badLength frame overrun =>
    change execBadLength frame overrun s = .next t at h
    unfold execBadLength at h
    split at h
    · exact .runs (State.runs_execute_code h)
    · cases h; exact same
  case status tag => exact stepsTo_row tag noSamples noLevels .status h
  case setLimits tag hold idle alert => exact stepsTo_row tag noSamples noLevels (.setLimits hold idle alert) h
  case warmRestart tag lines => exact stepsTo_row tag lines noLevels .warmRestart h
  case routeStage tag slot image => exact stepsTo_row tag noSamples noLevels (.routeStage slot image) h
  case routeUnstage tag slot => exact stepsTo_row tag noSamples noLevels (.routeUnstage slot) h
  case routeQuery tag slot copy => exact stepsTo_row tag noSamples noLevels (.routeQuery slot copy) h
  case windowStage tag w low high access cacheable =>
    exact stepsTo_row tag noSamples noLevels (.windowStage w low high access cacheable) h
  case windowQuery tag w copy => exact stepsTo_row tag noSamples noLevels (.windowQuery w copy) h
  case commit tag expected => exact stepsTo_row tag noSamples noLevels (.commit expected) h
  case abandon tag => exact stepsTo_row tag noSamples noLevels .abandon h
  case routeState tag slot => exact stepsTo_row tag noSamples noLevels (.routeState slot) h
  case routeResume tag slot => exact stepsTo_row tag noSamples noLevels (.routeResume slot) h
  case segConfig tag g speed timeout => exact stepsTo_row tag noSamples noLevels (.segConfig g speed timeout) h
  case segEnable tag g levels => exact stepsTo_row tag noSamples levels (.segEnable g) h
  case segDisable tag g force => exact stepsTo_row tag noSamples noLevels (.segDisable g force) h
  case segRecover tag g => exact stepsTo_row tag noSamples noLevels (.segRecover g) h
  case cacheInvalidate tag scope slot => exact stepsTo_row tag noSamples noLevels (.cacheInvalidate scope slot) h
  case cacheProbe tag g pa index => exact stepsTo_row tag noSamples noLevels (.cacheProbe g pa index) h
  case logRead tag k => exact stepsTo_row tag noSamples noLevels (.logRead k) h
  case logRelease tag q => exact stepsTo_row tag noSamples noLevels (.logRelease q) h

end Sys2Proof.Machine
end

section
/-! PROOFS. What the management commands keep, and the statements on every step that need no more than that: the queue of commands, the
log, the bounds and the active tables (R14, R23, R25, R78, R150, R166, R173, R177, R179, R183, R191, R198). -/

namespace Sys2Proof.Machine

variable {s t : State}

/-! ### The commands that keep what every event keeps -/

/-- The commands that write the tables, the limits or the log. -/
def configures : MgmtCommand → Bool
  | .setLimits .. | .routeStage .. | .routeUnstage .. | .windowStage .. | .commit .. | .abandon | .logRelease .. => true
  | _ => false

theorem State.runs_restartEngine (s : State) (lines : SegSamples) (g : Seg) : s.Runs (s.restartEngine lines g) := by
  unfold State.restartEngine
  split
  · exact .refl s
  · exact .refl s
  · exact (s.runs_abortEngine g).trans (State.runs_leaveBusy _ g _)

theorem State.runs_forceDisable (s : State) (g : Seg) : s.Runs (s.forceDisable g) :=
  (s.runs_abortEngine g).trans ((State.runs_bulkDiscard _ g _).trans (State.runs_leaveBusy _ g _))

theorem runs_cmdWarmRestart (lines : SegSamples) (s : State) : s.Runs (cmdWarmRestart lines s).1 := by
  have restarts := (s.runs_restartEngine lines 0).trans ((State.runs_restartEngine _ lines 1).trans
    ((State.runs_restartEngine _ lines 2).trans (State.runs_restartEngine _ lines 3)))
  have discards := restarts.trans ((State.runs_bulkDiscard _ 0 .warmRestart).trans ((State.runs_bulkDiscard _ 1 .warmRestart).trans
    ((State.runs_bulkDiscard _ 2 .warmRestart).trans (State.runs_bulkDiscard _ 3 .warmRestart))))
  have cleared (u : State) : u.Runs
      ({ u with cache := [], commitMarks := Vector.replicate 4 false }.mapRuntime fun _ rt =>
        { rt with faulted := false, pointer := none, pending := 0 }) :=
    .quiet (by simp) (fun _ => ⟨by simp, by simp⟩) (le_of_eq rfl)
  exact discards.trans (cleared _)

theorem runs_cmdSegDisable (segment force : Byte) (s : State) : s.Runs (cmdSegDisable segment force s).1 := by
  unfold cmdSegDisable
  split
  next => exact .refl s
  next g _ =>
    split
    next => exact .refl s
    next =>
      split
      next => exact .refl s
      next => exact s.runs_setMode g _
      next =>
        split_ifs
        · exact s.runs_setMode g _
        · exact s.runs_forceDisable g
        · exact .refl s

theorem runs_cmdSegConfig (segment speed timeout : Byte) (s : State) : s.Runs (cmdSegConfig segment speed timeout s).1 := by
  unfold cmdSegConfig
  (repeat' split) <;> exact .same (by simp)

theorem runs_cmdSegEnable (segment : Byte) (lines : SegSamples) (s : State) : s.Runs (cmdSegEnable segment lines s).1 := by
  unfold cmdSegEnable
  (repeat' split) <;> exact .same (by simp)

theorem runs_cmdSegRecover (segment : Byte) (s : State) : s.Runs (cmdSegRecover segment s).1 := by
  unfold cmdSegRecover
  (repeat' split) <;> exact .same (by simp)

theorem runs_cmdRouteResume (slot : Byte) (s : State) : s.Runs (cmdRouteResume slot s).1 := by
  unfold cmdRouteResume
  split <;> exact .same (by simp)

theorem runs_cmdCacheInvalidate (scope slot : Byte) (s : State) : s.Runs (cmdCacheInvalidate scope slot s).1 := by
  have emptied : s.Runs { s with cache := [] } := .quiet (by simp) (fun _ => ⟨by simp, by simp⟩) (le_of_eq rfl)
  have dropped (g : Seg) (pa : Addr) : s.Runs { s with cache := dropTarget s.cache g pa } :=
    .quiet (by simp) (fun h => h.dropTarget g pa) (le_of_eq rfl)
  unfold cmdCacheInvalidate
  split
  next => exact emptied
  next =>
    split
    next => exact .refl s
    next i _ =>
      dsimp only
      split_ifs
      · exact dropped _ _
      · exact .refl s
  next => exact .refl s

/-- The queries change nothing but the response (R20, R21, R164, R176, R197). -/
theorem perform_query_fst {m : MgmtCommand} (lines : SegSamples) (s : State)
    (h : m = .status ∨ (∃ i k, m = .routeQuery i k) ∨ (∃ j k, m = .windowQuery j k) ∨ (∃ i, m = .routeState i) ∨
      (∃ g pa i, m = .cacheProbe g pa i) ∨ ∃ k, m = .logRead k) : (perform m lines s).1 = s := by
  rcases h with rfl | ⟨i, k, rfl⟩ | ⟨j, k, rfl⟩ | ⟨i, rfl⟩ | ⟨g, pa, i, rfl⟩ | ⟨k, rfl⟩
  case inl => rfl
  case inr.inl => simp only [perform, cmdRouteQuery]; (repeat' split) <;> rfl
  case inr.inr.inl => simp only [perform, cmdWindowQuery]; (repeat' split) <;> rfl
  case inr.inr.inr.inl => simp only [perform, cmdRouteState]; split <;> rfl
  case inr.inr.inr.inr.inl => simp only [perform, cmdCacheProbe]; (repeat' split) <;> rfl
  case inr.inr.inr.inr.inr => simp only [perform, cmdLogRead]; split <;> rfl

/-- Every command but those that configure keeps what every event keeps. -/
theorem runs_perform {m : MgmtCommand} (h : configures m = false) (lines : SegSamples) (s : State) :
    s.Runs (perform m lines s).1 := by
  have query (h : (perform m lines s).1 = s) : s.Runs (perform m lines s).1 := by rw [h]; exact .refl s
  cases m
  case status => exact .refl s
  case routeQuery i k => exact query (perform_query_fst lines s (.inr (.inl ⟨i, k, rfl⟩)))
  case windowQuery j k => exact query (perform_query_fst lines s (.inr (.inr (.inl ⟨j, k, rfl⟩))))
  case routeState i => exact query (perform_query_fst lines s (.inr (.inr (.inr (.inl ⟨i, rfl⟩)))))
  case cacheProbe g pa i => exact query (perform_query_fst lines s (.inr (.inr (.inr (.inr (.inl ⟨g, pa, i, rfl⟩))))))
  case logRead k => exact query (perform_query_fst lines s (.inr (.inr (.inr (.inr (.inr ⟨k, rfl⟩))))))
  case warmRestart => exact runs_cmdWarmRestart lines s
  case routeResume slot => exact runs_cmdRouteResume slot s
  case segConfig g speed timeout => exact runs_cmdSegConfig g speed timeout s
  case segEnable g => exact runs_cmdSegEnable g lines s
  case segDisable g force => exact runs_cmdSegDisable g force s
  case segRecover g => exact runs_cmdSegRecover g s
  case cacheInvalidate scope slot => exact runs_cmdCacheInvalidate scope slot s
  all_goals cases h

/-! ### The commands that configure -/

/-- What SET_LIMITS can do (R198). -/
theorem cmdSetLimits_cases (hold idle alert : Byte) (s : State) :
    (cmdSetLimits hold idle alert s).1 = s ∨
    ∃ h i a, (2 ≤ h ∧ h ≤ 100 ∧ 10 ≤ i ∧ i ≤ 250 ∧ h < i) ∧
      (cmdSetLimits hold idle alert s).1 = { s with holdLimit := h, idleLimit := i, alertEnable := a } := by
  by_cases accepted : LimitsAccepted hold idle alert
  · obtain ⟨h1, h2, h3, h4, -, h6⟩ := id accepted
    exact .inr ⟨_, _, _, ⟨h1, h2, h3, h4, h6⟩, by rw [cmdSetLimits_ok accepted]⟩
  · exact .inl (by rw [cmdSetLimits_badValue accepted])

/-- What COMMIT can do to a state (R23 to R25). -/
theorem cmdCommit_cases (expected : Word16) (s : State) :
    (cmdCommit expected s).1 = s ∨ expected = s.generation ∧ validate s.staged s.mga = none := by
  unfold cmdCommit
  split
  next => exact .inl rfl
  next current =>
    split
    next => exact .inl rfl
    next valid => exact .inr ⟨not_not.mp current, valid⟩

/-- What LOG_RELEASE can do to a state (R177). -/
theorem cmdLogRelease_cases (q : Word16) (s : State) :
    (cmdLogRelease q s).1 = s ∨
    ∃ k, (cmdLogRelease q s).1 =
      { s with log := s.log.drop (k + 1), lost := if (s.log.drop (k + 1)).isEmpty then 0 else s.lost } := by
  unfold cmdLogRelease
  split
  next k _ => exact .inr ⟨k, rfl⟩
  next => exact .inl rfl

/-- The commands that configure write nothing but the tables, the limits and the log. -/
theorem perform_configures {m : MgmtCommand} (h : configures m = true) (lines : SegSamples) (s : State) :
    (perform m lines s).1.power = s.power ∧ (perform m lines s).1.mga = s.mga ∧ (perform m lines s).1.pending = s.pending ∧
    (perform m lines s).1.lists = s.lists ∧ (perform m lines s).1.openRecord = s.openRecord ∧
    ((perform m lines s).1.cache = s.cache ∨ (perform m lines s).1.cache = []) := by
  cases m
  case setLimits => simp only [perform, cmdSetLimits]; (repeat' split) <;> simp
  case routeStage => simp only [perform, cmdRouteStage]; (repeat' split) <;> simp
  case routeUnstage => simp only [perform, cmdRouteUnstage]; split <;> simp
  case windowStage => simp only [perform, cmdWindowStage]; (repeat' split) <;> simp
  case commit => simp only [perform, cmdCommit]; (repeat' split) <;> simp
  case abandon => simp [perform, cmdAbandon]
  case logRelease => simp only [perform, cmdLogRelease]; split <;> simp
  all_goals cases h

theorem routePayload_length (r : RouteEntry) : (routePayload r).length = 13 := rfl

theorem windowPayload_length (w : WindowEntry) : (windowPayload w).length = 6 := rfl

theorem routeStatePayload_length (valid : Bool) (r : Runtime) : (routeStatePayload valid r).length = 5 := rfl

theorem Entry.image_length (e : Entry) : e.image.length = 13 := by
  cases h : e.index <;> simp [Entry.image, LogIndex.image, wordBytes, h]

/-- Every payload fits its buffer (R191). -/
theorem perform_payload (m : MgmtCommand) (lines : SegSamples) (s : State) :
    (perform m lines s).2.payload.length + 3 ≤ Config.responseBytes := by
  have code (c : Code) : (replyCode c).payload.length + 3 ≤ Config.responseBytes := show 0 + 3 ≤ Config.responseBytes by decide
  have known (c : Code) (payload : List Byte) (h : payload.length ≤ 29) :
      (reply c payload).payload.length + 3 ≤ Config.responseBytes := Nat.add_le_add_right h 3
  cases m
  case status => exact known _ _ (show 14 ≤ 29 by decide)
  case setLimits => simp only [perform, cmdSetLimits]; (repeat' split) <;> exact code _
  case warmRestart => exact code _
  case routeStage => simp only [perform, cmdRouteStage]; (repeat' split) <;> exact code _
  case routeUnstage => simp only [perform, cmdRouteUnstage]; split <;> exact code _
  case routeQuery =>
    simp only [perform, cmdRouteQuery]
    split
    · exact code _
    · split
      · exact code _
      · exact known _ _ (by rw [routePayload_length]; decide)
  case windowStage => simp only [perform, cmdWindowStage]; (repeat' split) <;> exact code _
  case windowQuery =>
    simp only [perform, cmdWindowQuery]
    split
    · exact code _
    · split
      · exact code _
      · exact known _ _ (by rw [windowPayload_length]; decide)
  case commit =>
    simp only [perform, cmdCommit]
    (repeat' split) <;> exact known _ _ (by simp [wordBytes])
  case abandon => exact code _
  case routeState =>
    simp only [perform, cmdRouteState]
    split
    · exact code _
    · exact known _ _ (by rw [routeStatePayload_length]; decide)
  case routeResume => simp only [perform, cmdRouteResume]; split <;> exact code _
  case segConfig => simp only [perform, cmdSegConfig]; (repeat' split) <;> exact code _
  case segEnable =>
    simp only [perform, cmdSegEnable]
    split
    · exact code _
    · split <;> exact known _ _ (by simp)
  case segDisable => simp only [perform, cmdSegDisable]; (repeat' split) <;> exact code _
  case segRecover =>
    simp only [perform, cmdSegRecover]
    split
    · exact code _
    · split
      · exact known .pending [_] (by simp)
      · exact known .pending [_] (by simp)
      · exact code _
  case cacheInvalidate =>
    simp only [perform, cmdCacheInvalidate]
    split
    · exact known _ _ (by simp)
    · split
      · exact code _
      · split
        · exact known _ _ (by simp)
        · exact code _
    · exact code _
  case cacheProbe =>
    simp only [perform, cmdCacheProbe]
    split
    · exact code _
    · split
      · exact code _
      · split <;> exact known _ _ (by simp)
  case logRead =>
    simp only [perform, cmdLogRead]
    split <;> exact known _ _ (by simp [Entry.image_length])
  case logRelease =>
    simp only [perform, cmdLogRelease]
    split <;> exact known _ _ (by simp [wordBytes])

/-- Every command leaves the queue, the reset and the MGA alone. -/
theorem perform_keeps (m : MgmtCommand) (lines : SegSamples) (s : State) :
    (perform m lines s).1.power = s.power ∧ (perform m lines s).1.mga = s.mga ∧ (perform m lines s).1.pending = s.pending := by
  cases h : configures m
  · obtain ⟨power, mga, -, -, -, -, -, -, -, pending⟩ := (runs_perform h lines s).fixed
    exact ⟨power, mga, pending⟩
  · obtain ⟨power, mga, pending, -⟩ := perform_configures h lines s
    exact ⟨power, mga, pending⟩

/-! ### The queue -/

/-- Settles O2: each of the things a command can do leaves the queue alone. -/
theorem everyCommandCompletes : Obligations.EveryCommandCompletes := by
  intro c s
  obtain ⟨t, h⟩ := exec_total c s
  refine ⟨t, h, ?_⟩
  cases exec_stepsTo h with
  | reset _ => rfl
  | sampled as1 as0 _ => rfl
  | started _ => rfl
  | executes m tag lines _ _ => exact (perform_keeps m lines s).2.2
  | ends m tag lines next _ _ => exact (perform_keeps m lines s).2.2
  | runs h => exact h.fixed.2.2.2.2.2.2.2.2.2

/-! ### The log -/

/-- A release takes the oldest entries and leaves the log in order (R173, R177). -/
theorem LogPart.Ok.drop {l : LogPart} (h : l.Ok) (k : Nat) :
    LogPart.Ok { l with entries := l.entries.drop k, lost := if (l.entries.drop k).isEmpty then 0 else l.lost } := by
  obtain ⟨size, lost, -, order⟩ := h
  refine ⟨?_, ?_, fun none => ?_, fun j => ?_⟩
  · simp only [List.length_drop]
    omega
  · dsimp only
    split
    · exact Nat.zero_le _
    · exact lost
  · dsimp only at none ⊢
    rw [none]
    rfl
  · have hj : j.val < l.entries.length - k := by simpa using j.isLt
    have old := order ⟨k + j.val, by omega⟩
    simp only [Fin.getElem_fin, List.getElem_drop, List.length_drop] at old ⊢
    rw [old, show l.entries.length - (k + j.val) = l.entries.length - k - j.val by omega]

/-- What a management command does to the log (R177): LOG_RELEASE alone takes entries from it. -/
theorem perform_log (m : MgmtCommand) (lines : SegSamples) (s : State) :
    s.logPart.Grows (perform m lines s).1.logPart ∨
    (∃ q, m = .logRelease q) ∧ ∃ k, (perform m lines s).1.logPart =
      { s.logPart with entries := s.log.drop k, lost := if (s.log.drop k).isEmpty then 0 else s.lost } := by
  have same (h : (perform m lines s).1.logPart = s.logPart) : s.logPart.Grows (perform m lines s).1.logPart := by
    rw [h]; exact .refl _
  cases h : configures m
  · exact .inl (runs_perform h lines s).log
  · cases m
    case setLimits => refine .inl (same ?_); simp only [perform, cmdSetLimits]; (repeat' split) <;> rfl
    case routeStage => refine .inl (same ?_); simp only [perform, cmdRouteStage]; (repeat' split) <;> rfl
    case routeUnstage => refine .inl (same ?_); simp only [perform, cmdRouteUnstage]; split <;> rfl
    case windowStage => refine .inl (same ?_); simp only [perform, cmdWindowStage]; (repeat' split) <;> rfl
    case commit => refine .inl (same ?_); simp only [perform, cmdCommit]; (repeat' split) <;> rfl
    case abandon => exact .inl (same rfl)
    case logRelease q =>
      rcases cmdLogRelease_cases q s with none | ⟨k, some⟩
      · exact .inl (same (congrArg State.logPart none))
      · exact .inr ⟨⟨q, rfl⟩, k + 1, congrArg State.logPart some⟩
    all_goals cases h

/-- A step does nothing, or runs the front command on the rest of the queue. -/
theorem step_cases (h : step s = .next t) :
    t = s ∨ ∃ c rest, s.pending = c :: rest ∧ exec c { s with pending := rest } = .next t := by
  unfold step at h
  split at h
  · cases h; exact .inl rfl
  next c rest front => exact .inr ⟨c, rest, front, h⟩

/-- What a command does to the log: it takes entries in front at a release or a reset alone, and adds at the tail (R173, R177). -/
theorem exec_log {c : Instr} (h : exec c s = .next t) :
    (s.LogOk → t.LogOk) ∧
    ∃ (k : Nat) (new : List Entry), t.log = s.log.drop k ++ new ∧
      (k ≠ 0 → c = .powerOnReset ∨ c = .resetAsserted ∨ ∃ q, s.Executes c (.logRelease q)) := by
  have grown {u : State} (g : s.logPart.Grows u.logPart) :
      (s.LogOk → u.LogOk) ∧ ∃ (k : Nat) (new : List Entry), u.log = s.log.drop k ++ new ∧
        (k ≠ 0 → c = .powerOnReset ∨ c = .resetAsserted ∨ ∃ q, s.Executes c (.logRelease q)) := by
    obtain ⟨new, hnew⟩ := g.entries
    exact ⟨g.ok, 0, new, hnew, fun h => absurd rfl h⟩
  have performed {u : State} (m : MgmtCommand) (lines : SegSamples) (row : s.Executes c m)
      (hu : u.logPart = (perform m lines s).1.logPart) :
      (s.LogOk → u.LogOk) ∧ ∃ (k : Nat) (new : List Entry), u.log = s.log.drop k ++ new ∧
        (k ≠ 0 → c = .powerOnReset ∨ c = .resetAsserted ∨ ∃ q, s.Executes c (.logRelease q)) := by
    rcases perform_log m lines s with g | ⟨⟨q, rfl⟩, k, released⟩
    · exact grown (hu ▸ g)
    · rw [← hu] at released
      refine ⟨fun ok => ?_, k, [], ?_, fun _ => .inr (.inr ⟨q, row⟩)⟩
      · rw [State.logOk_iff, released]
        exact LogPart.Ok.drop (l := s.logPart) ok k
      · rw [List.append_nil]
        exact congrArg LogPart.entries released
  cases exec_stepsTo h with
  | reset row =>
    refine ⟨fun _ => ⟨Nat.zero_le _, Nat.zero_le _, fun _ => rfl, fun k => absurd k.isLt (Nat.not_lt_zero _)⟩, s.log.length, [],
      by simp [State.cleared, State.reset], fun _ => ?_⟩
    exact row.elim .inl fun r => .inr (.inl r)
  | sampled as1 as0 _ => exact grown (.refl _)
  | started _ => exact grown (.refl _)
  | executes m tag lines row _ => exact performed m lines row rfl
  | ends m tag lines next row _ => exact performed m lines row rfl
  | runs h => exact grown h.log

/-- An append leaves an entry in the log, so that ALERT# is low exactly while alerting is enabled (R173, R179). -/
theorem State.alertLow_append (s : State) (e : Entry) : (s.append e).alertLow = s.alertEnable := by
  have some : (s.append e).log.isEmpty = false := by
    unfold State.append
    split
    next => simp
    next full =>
      cases h : s.log with
      | nil => simp [h, Config.logSize] at full
      | cons x xs => rfl
  simp [State.alertLow, some]

/-- Settles O53: a step is a command on the log, and an append is its two cases. -/
theorem logKept : Obligations.LogKept := by
  refine ⟨fun s t h => ?_, fun e s => ⟨rfl, s.alertLow_append e⟩⟩
  rcases step_cases h with rfl | ⟨c, rest, front, run⟩
  · exact ⟨id, t.alertLow_iff, 0, [], by simp, fun h => absurd rfl h⟩
  · obtain ⟨ok, k, new, log, taken⟩ := exec_log run
    exact ⟨ok, t.alertLow_iff, k, new, log, fun hk => ⟨c, rest, front, taken hk⟩⟩

/-! ### The bounds -/

/-- The limits stay in their ranges at every management command (R198). -/
theorem perform_limits (m : MgmtCommand) (lines : SegSamples) (s : State) (h : s.LimitsOk) :
    (perform m lines s).1.LimitsOk := by
  cases hm : configures m
  · obtain ⟨-, -, -, -, -, -, hold, idle, -⟩ := (runs_perform hm lines s).fixed
    simpa only [State.LimitsOk, hold, idle] using h
  · cases m
    case setLimits hold idle alert =>
      rcases cmdSetLimits_cases hold idle alert s with none | ⟨h, i, a, ⟨h1, h2, h3, h4, h5⟩, set⟩
      · change (cmdSetLimits hold idle alert s).1.LimitsOk
        rwa [none]
      · change (cmdSetLimits hold idle alert s).1.LimitsOk
        rw [set]
        exact ⟨h1, h2, h3, h4, h5⟩
    case routeStage => simp only [perform, cmdRouteStage]; (repeat' split) <;> exact h
    case routeUnstage => simp only [perform, cmdRouteUnstage]; split <;> exact h
    case windowStage => simp only [perform, cmdWindowStage]; (repeat' split) <;> exact h
    case commit => simp only [perform, cmdCommit]; (repeat' split) <;> exact h
    case abandon => exact h
    case logRelease => simp only [perform, cmdLogRelease]; split <;> exact h
    all_goals cases hm

/-- The pool and the cache stay within their bounds at every management command (R78, R150). -/
theorem perform_pool_cache (m : MgmtCommand) (lines : SegSamples) (s : State) :
    (s.PoolOk → (perform m lines s).1.PoolOk) ∧ (s.CacheOk → (perform m lines s).1.CacheOk) := by
  cases hm : configures m
  · exact ⟨(runs_perform hm lines s).pool, (runs_perform hm lines s).cache⟩
  · obtain ⟨-, -, -, lists, opened, cache⟩ := perform_configures hm lines s
    refine ⟨(le_of_eq (State.inUse_congr lists opened)).trans, fun h => ?_⟩
    rw [State.cacheOk_iff] at h ⊢
    rcases cache with same | none
    · rwa [same]
    · rw [none]
      exact ⟨by simp, by simp⟩

/-- The four bounds of a state. -/
def State.Bounded (s t : State) : Prop :=
  (s.PoolOk → t.PoolOk) ∧ (s.CacheOk → t.CacheOk) ∧ (s.LimitsOk → t.LimitsOk) ∧ (s.FrameOk → t.FrameOk)

/-- The write of a response keeps the bounds (R191). -/
theorem bounded_finish (m : MgmtCommand) (tag : Byte) (lines : SegSamples) (s : State) :
    s.Bounded (State.finish tag (perform m lines s)) := by
  obtain ⟨pool, cache⟩ := perform_pool_cache m lines s
  exact ⟨pool, cache, perform_limits m lines s,
    fun _ => ⟨by simp [State.finish], by simp [State.finish], by simp [State.finish], perform_payload m lines s⟩⟩

theorem exec_bounded {c : Instr} (h : exec c s = .next t) : s.Bounded t := by
  cases exec_stepsTo h with
  | reset _ =>
    exact ⟨fun _ => Nat.zero_le _, fun _ => ⟨Nat.zero_le _, List.nodup_nil⟩,
      fun _ => show State.reset.LimitsOk by unfold State.LimitsOk; decide,
      fun _ => show State.reset.FrameOk by unfold State.FrameOk; decide⟩
  | sampled as1 as0 _ => exact ⟨id, id, id, id⟩
  | started _ => exact ⟨id, id, id, id⟩
  | executes m tag lines _ _ => exact bounded_finish m tag lines s
  | ends m tag lines next _ _ => exact bounded_finish m tag lines s
  | runs h =>
    obtain ⟨-, -, -, -, -, -, hold, idle, -⟩ := h.fixed
    exact ⟨h.pool, h.cache, by simp only [State.LimitsOk, hold, idle, imp_self], h.frame⟩

/-- Settles O54: each bound is kept by each of the things a command can do. -/
theorem boundsKept : Obligations.BoundsKept := by
  intro s t h
  rcases step_cases h with rfl | ⟨c, rest, -, run⟩
  · exact ⟨id, id, id, id⟩
  · exact exec_bounded (s := { s with pending := rest }) run

/-! ### The active tables -/

/-- The state after a COMMIT of a set that passes (R25). -/
theorem cmdCommit_valid {s : State} (valid : validate s.staged s.mga = none) :
    cmdCommit s.generation s =
      ({ s with
          active := s.staged, generation := s.generation + 1#16, dirty := false, cache := [],
          runtime := s.runtime.mapFinIdx fun i r h =>
            if s.active.routes[i].sameIdentity s.staged.routes[i] then r
            else { faulted := false, pointer := none, pending := 0, incarnation := s.nextIncarnation ⟨i, h⟩ },
          commitMarks := s.commitMarks.mapFinIdx fun g m h => m || s.engines[g].mode.isBusy },
       reply .ok (wordBytes (s.generation + 1#16))) := by
  simp only [cmdCommit, valid, ne_eq, not_true_eq_false, if_false]

/-- COMMIT alone of the management commands writes the active tables and the generation (R23, R25). -/
theorem perform_active (m : MgmtCommand) (lines : SegSamples) (s : State) :
    (perform m lines s).1.active = s.active ∧ (perform m lines s).1.generation = s.generation ∨
    m = .commit s.generation ∧ validate s.staged s.mga = none := by
  cases hm : configures m
  · obtain ⟨-, -, active, -, generation, -⟩ := (runs_perform hm lines s).fixed
    exact .inl ⟨active, generation⟩
  · cases m
    case setLimits => refine .inl ?_; simp only [perform, cmdSetLimits]; (repeat' split) <;> exact ⟨rfl, rfl⟩
    case routeStage => refine .inl ?_; simp only [perform, cmdRouteStage]; (repeat' split) <;> exact ⟨rfl, rfl⟩
    case routeUnstage => refine .inl ?_; simp only [perform, cmdRouteUnstage]; split <;> exact ⟨rfl, rfl⟩
    case windowStage => refine .inl ?_; simp only [perform, cmdWindowStage]; (repeat' split) <;> exact ⟨rfl, rfl⟩
    case commit expected =>
      rcases cmdCommit_cases expected s with none | ⟨rfl, valid⟩
      · exact .inl ⟨congrArg State.active none, congrArg State.generation none⟩
      · exact .inr ⟨rfl, valid⟩
    case abandon => exact .inl ⟨rfl, rfl⟩
    case logRelease => refine .inl ?_; simp only [perform, cmdLogRelease]; split <;> exact ⟨rfl, rfl⟩
    all_goals cases hm

/-- Settles O60: of the things a command can do, a reset and a COMMIT that passes write the active tables. -/
theorem activeTablesChangeAtCommit : Obligations.ActiveTablesChangeAtCommit := by
  intro c s t h
  cases exec_stepsTo h with
  | reset row => exact .inr (.inl ⟨row, rfl, rfl⟩)
  | sampled as1 as0 _ => exact .inl ⟨rfl, rfl⟩
  | started _ => exact .inl ⟨rfl, rfl⟩
  | executes m tag lines row _ =>
    rcases perform_active m lines s with same | ⟨rfl, valid⟩
    · exact .inl same
    · refine .inr (.inr ⟨row, ?_⟩)
      simp [perform, cmdCommit_valid valid, State.finish, reply]
  | ends m tag lines next row _ =>
    rcases perform_active m lines s with same | ⟨rfl, valid⟩
    · exact .inl same
    · refine .inr (.inr ⟨row, ?_⟩)
      simp [perform, cmdCommit_valid valid, State.finish, reply]
  | runs h =>
    obtain ⟨-, -, active, -, generation, -⟩ := h.fixed
    exact .inl ⟨active, generation⟩

end Sys2Proof.Machine
end

section
/-! PROOFS. The resets, and the port where no work of a route is open: START and STOP conditions, addresses that no route claims, index
bytes, and the bytes of a management write and read (R28, R36, R45 to R50, R62, R149, R181 to R184, R192, R203). -/

namespace Sys2Proof.Machine

variable {s : State}

/-! ### Resets -/

/-- Settles O3: each item is read off the reset value. -/
theorem resetValues : Obligations.ResetValues := by
  refine ⟨fun i => ⟨?_, ?_, ?_⟩, fun j => ⟨?_, ?_⟩, rfl, rfl, rfl, rfl, fun g => ⟨?_, ?_, ?_⟩, rfl, rfl, rfl, rfl, rfl, rfl, rfl, rfl,
    rfl, rfl, rfl, rfl, rfl, rfl⟩
  · exact Vector.getElem_replicate _
  · exact Vector.getElem_replicate _
  · exact Vector.getElem_replicate _
  · exact Vector.getElem_replicate _
  · exact Vector.getElem_replicate _
  · exact Vector.getElem_replicate _
  · exact Vector.getElem_replicate _
  · exact Vector.getElem_replicate _

/-- The four addresses that the straps give (R181). -/
theorem strapAddress_eq (as1 as0 : Bool) :
    strapAddress as1 as0 = if as1 then (if as0 then 0x73#7 else 0x72#7) else (if as0 then 0x71#7 else 0x70#7) := by
  cases as1 <;> cases as0 <;> rfl

/-- Settles O5: the three rows of a reset, each at its power state. -/
theorem resetSequence : Obligations.ResetSequence := by
  refine ⟨fun s => ⟨rfl, rfl⟩, fun as1 as0 s held => ?_, fun s starting => ?_⟩
  · rw [← strapAddress_eq]
    exact congrArg _ (if_pos held)
  · exact congrArg _ (if_pos starting)

/-! ### START and STOP conditions -/

/-- SCLU is held for a context alone (R55). -/
theorem State.scluHeld_of_closed (h : s.context = none) : s.scluHeld = false := by
  simp [State.scluHeld, State.hold, h]

/-- SCLU is held while the context has a hold (R55). -/
theorem State.scluHeld_of_context {c : Context} (h : s.context = some c) : s.scluHeld = c.hold.isSome := by
  simp [State.scluHeld, State.hold, h]

theorem exec_upstreamStop (lines : SegSamples) (held : s.scluHeld = false) (open_ : s.port ≠ .upIdle) :
    exec (.upstreamStop lines) s = .next (s.endSubTransaction lines .upIdle) :=
  congrArg _ (if_neg (by simp [held, open_]))

theorem State.startCondition_eq_end (lines : SegSamples) (held : s.scluHeld = false) (live : s.power ≠ .inReset)
    (open_ : s.port ≠ .upIdle) : s.startCondition lines = s.endSubTransaction lines .upAddress := by
  simp [State.startCondition, held, live, open_]

theorem exec_upstreamRepeatedStart (lines : SegSamples) (held : s.scluHeld = false) (live : s.power ≠ .inReset)
    (open_ : s.port ≠ .upIdle) : exec (.upstreamRepeatedStart lines) s = .next (s.endSubTransaction lines .upAddress) :=
  congrArg _ (State.startCondition_eq_end lines held live open_)

theorem exec_upstreamStart (lines : SegSamples) (held : s.scluHeld = false) (live : s.power ≠ .inReset)
    (open_ : s.port ≠ .upIdle) : exec (.upstreamStart lines) s = .next (s.endSubTransaction lines .upAddress) :=
  congrArg _ (State.startCondition_eq_end lines held live open_)

/-- Without a context no block is told of the end (R46). -/
theorem State.endSubTransaction_closed (lines : SegSamples) (next : PortState) (port : s.port ≠ .upMgmtWrite)
    (closed : s.context = none) :
    s.endSubTransaction lines next = { s with port := next, answer := .released, sending := none } := by
  simp [State.endSubTransaction, port, State.endRouted, closed]

/-- Settles O6: in UP_IDLE a START begins, and elsewhere it ends a sub-transaction that no block carries. -/
theorem startsAndIgnoredEnds : Obligations.StartsAndIgnoredEnds := by
  refine ⟨fun l s port closed live => ?_, fun l s port closed live => ?_⟩
  · have begins : s.startCondition l = { s with port := .upAddress, answer := .released } := by
      simp [State.startCondition, State.scluHeld_of_closed closed, live, port]
    exact ⟨congrArg _ begins, congrArg _ begins⟩
  · have held := State.scluHeld_of_closed closed
    have notIdle : s.port ≠ .upIdle := by rcases port with h | h | h <;> simp [h]
    have notMgmt : s.port ≠ .upMgmtWrite := by rcases port with h | h | h <;> simp [h]
    rw [exec_upstreamRepeatedStart l held live notIdle, exec_upstreamStart l held live notIdle, exec_upstreamStop l held notIdle,
      State.endSubTransaction_closed l _ notMgmt closed, State.endSubTransaction_closed l _ notMgmt closed]
    exact ⟨rfl, rfl, rfl⟩

/-! ### Addresses that no route claims -/

/-- An address byte in UP_ADDRESS is decided (R49 to R54). -/
theorem exec_addressDecode (a : Addr) (dir : Direction) (port : s.port = .upAddress) (closed : s.context = none) :
    exec (.addressDecode a dir) s =
      .next
        (if s.power ≠ .running ∨ reservedAddr a = true then s.nackAddress
        else if a = s.mga then s.decodeManagement dir
        else ((findRoute s.active a).map fun i => s.decodeRouted i dir).getD s.nackAddress) := by
  refine (congrArg Host.Outcome.next (if_pos ⟨port, closed⟩)).trans ?_
  cases h : findRoute s.active a <;> rfl

/-- Settles O7: each of the refusals leads to the NACK, and the MGA is asked for before the routes. -/
theorem addressNackedOrManagement : Obligations.AddressNackedOrManagement := by
  refine ⟨fun a dir s port closed refused => ?_, fun s port closed running free => ?_⟩
  · rw [exec_addressDecode a dir port closed]
    by_cases reserved : s.power ≠ .running ∨ reservedAddr a = true
    · rw [if_pos reserved]; rfl
    · have unreserved : ¬(a.toNat < 0x08 ∨ 0x78 ≤ a.toNat) := fun h => reserved (.inr (by simpa [reservedAddr] using h))
      obtain ⟨notMga, unclaimed⟩ : a ≠ s.mga ∧ ∀ i : Slot, ¬(s.active.routes[i].valid = true ∧ s.active.routes[i].vaddr = a) := by
        rcases refused with h | h | h | h
        · exact absurd (.inl h) reserved
        · exact absurd (.inl h) unreserved
        · exact absurd (.inr h) unreserved
        · exact h
      rw [if_neg reserved, if_neg notMga, findRoute_eq_none unclaimed]
      rfl
  · have decided : ¬(s.power ≠ .running ∨ reservedAddr s.mga = true) := by simp [running, free]
    rw [exec_addressDecode _ _ port closed, exec_addressDecode _ _ port closed, if_neg decided, if_neg decided, if_pos rfl, if_pos rfl]
    exact ⟨rfl, rfl⟩

/-! ### Index bytes -/

/-- The index that the last index byte completes, high byte first (R28, R62). -/
def Context.indexWith (c : Context) (b : Byte) : Word16 :=
  if c.route.width = IndexWidth.two then joinBytes c.indexHigh b else joinBytes 0#8 b

/-- An index byte in UP_INDEX (R36, R62). -/
theorem exec_indexByte (b : Byte) {c : Context} (opened : s.context = some c) (port : s.port = .upIndex) :
    exec (.indexByte b) s = .next
      (if c.route.width = .two ∧ c.indexTaken = 0 then
        { s with answer := .ack, context := some { c with indexTaken := 1, indexHigh := b } }
      else
        { s with
            answer := .ack, port := .upWrite,
            context := some { c with indexTaken := c.indexTaken + 1, index := some (c.indexWith b), follow := true } }.setPointer
          c.slot (some (c.indexWith b))) := by
  change execIndexByte b s = _
  simp only [execIndexByte, opened]
  exact congrArg _ (if_pos port)

/-- Settles O12: the first of two bytes is kept, and the last completes the index. -/
theorem indexBytesAbsorbed : Obligations.IndexBytesAbsorbed := by
  intro b c s opened port
  rw [exec_indexByte b opened port]
  refine ⟨fun two none => ?_, fun two one => ?_, fun one none => ?_⟩
  · rw [if_pos ⟨two, none⟩]
  · rw [if_neg (by simp [one]), Context.indexWith, if_pos two, joinBytes_eq_append, one]
  · rw [if_neg (by simp [one]), Context.indexWith, if_neg (by simp [one]), joinBytes_zero, none]

/-! ### Management bytes -/

/-- Settles O18: the buffer has room for twenty bytes, and the response is read byte by byte. -/
theorem managementBytes : Obligations.ManagementBytes := by
  refine ⟨fun b s port => ?_, fun s port sent => ?_⟩
  · have run : exec (.mgmtWriteByte b) s = execMgmtWriteByte b s := rfl
    refine ⟨fun collecting room => ?_, fun collecting full => ?_, fun overrun => ?_⟩
    · rw [run, execMgmtWriteByte, if_pos port, collecting]
      exact congrArg _ (if_pos room)
    · rw [run, execMgmtWriteByte, if_pos port, collecting]
      exact congrArg _ (if_neg (not_lt.mpr full))
    · rw [run, execMgmtWriteByte, if_pos port, overrun]
  · obtain ⟨x, hx⟩ := Option.isSome_iff_exists.mp sent
    have run (ack : Bool) : exec (.readByteAnswer ack) s =
        .next (if ack then { s with readPos := s.readPos + 1, sending := some (s.response.byte (s.readPos + 1)) }
          else { s with sending := none }) := by
      change execReadByteAnswer ack s = _
      simp only [execReadByteAnswer, hx, port, if_true]
    refine ⟨run false, (run true).trans ?_⟩
    rw [List.getD_eq_getElem?_getD]
    rfl

end Sys2Proof.Machine
end

section
/-! PROOFS. Routed addresses that are denied or taken, and the reads that the target decides (R43, R44, R48, R51, R52, R54, R71, R109,
R144). -/

namespace Sys2Proof.Machine

variable {s : State}

/-! ### Routed addresses -/

/-- A segment is out of service in DISABLED and in STUCK (R51, R63). -/
theorem EngineMode.outOfService_iff (m : EngineMode) : m.outOfService = true ↔ m = .disabled ∨ m = .stuck := by
  cases m <;> simp [EngineMode.outOfService]

/-- A check that fails denies the address (R44, R51). -/
theorem exec_addressDecode_denied {a : Addr} {i : Slot} {dir : Direction} {why : DenialReason} {index : Option Word16}
    (decides : s.Decides a) (claims : s.Claims i a) (check : s.addressCheck i dir = some (why, index)) :
    exec (.addressDecode a dir) s = .next (s.denied i dir why index) := by
  rw [exec_addressDecode_routed decides claims]
  simp only [State.decodeRouted, check]
  rfl

/-- A read on an indexed route in service, with the Pointer UNKNOWN (R51). -/
theorem State.addressCheck_unknown {i : Slot} (out : ¬(s.engine s.active.routes[i].segment).mode.outOfService = true)
    (indexed : ¬s.active.routes[i].width = .raw) (unknown : (s.slotRuntime i).pointer = none) :
    s.addressCheck i .read = some (.pointerUnknown, none) := by
  simp only [State.addressCheck, out, indexed, unknown, reduceCtorEq, false_and, if_false]

/-- A read on an indexed route in service, at an index that may not be read (R51). -/
theorem State.addressCheck_unreadable {i : Slot} {p : Word16} (out : ¬(s.engine s.active.routes[i].segment).mode.outOfService = true)
    (indexed : ¬s.active.routes[i].width = .raw) (known : (s.slotRuntime i).pointer = some p)
    (unreadable : (accessAt s.active s.active.routes[i] p).reads = false) :
    s.addressCheck i .read = some (.window, some p) := by
  simp only [State.addressCheck, out, indexed, known, unreadable, reduceCtorEq, false_and, if_false, Bool.false_eq_true]

/-- Settles O8: the first check that fails gives the denial. -/
theorem routedAddressDenied : Obligations.RoutedAddressDenied := by
  intro a dir i s decides claims
  simp only [← EngineMode.outOfService_iff]
  split_ifs with out faulted raw
  · exact exec_addressDecode_denied decides claims (if_pos out)
  · refine exec_addressDecode_denied decides claims ((if_neg out).trans (if_pos faulted))
  · refine fun unallowed => exec_addressDecode_denied decides claims ?_
    exact (if_neg out).trans ((if_neg faulted).trans ((if_pos raw).trans (if_neg (ne_true_of_eq_false unallowed))))
  · rintro rfl
    split
    next unknown => exact exec_addressDecode_denied decides claims (State.addressCheck_unknown out raw unknown)
    next p known =>
      exact fun unreadable =>
        exec_addressDecode_denied decides claims (State.addressCheck_unreadable out raw known unreadable)

/-- Settles O9: a write address that passes the checks opens its context. -/
theorem writeAddressTaken : Obligations.WriteAddressTaken := by
  intro a i s decides claims inService normal writable
  have passes : s.addressCheck i .write = none := by
    simp only [State.addressCheck, inService, normal, Bool.false_eq_true, and_false, if_false]
    split
    next raw => exact if_pos (writable raw)
    next => rfl
  rw [exec_addressDecode_routed decides claims]
  simp only [State.decodeRouted, passes]
  cases s.active.routes[i].width <;> simp [IndexWidth.indexed, State.newContext]

/-- A raw read address that passes the checks is decided by the target (R54). -/
theorem State.decodeRead_raw {i : Slot} (raw : s.active.routes[i].width = .raw) :
    s.decodeRead i =
      { s with answer := .released }.makeRequest (s.newContext i .read) (s.newContext i .read).readRequest .readAddress :=
  if_neg (ne_true_of_eq_false ((IndexWidth.indexed_false_iff _).mpr raw))

/-- The read request of a context on a raw route (R54). -/
theorem Context.readRequest_raw {c : Context} (raw : c.route.width = .raw) :
    c.readRequest =
      { kind := .rawRead, slot := c.slot, incarnation := c.incarnation, segment := c.route.segment, paddr := c.route.paddr,
        width := .raw, autoInc := c.route.autoInc, index := c.index, firstByte := 0#8 } := by
  simp [Context.readRequest, raw, IndexWidth.indexed]

/-! ### Bytes counted and delivered -/

section
variable (c : Context)
@[simp] theorem Context.counted_slot : c.counted.slot = c.slot := rfl
@[simp] theorem Context.counted_incarnation : c.counted.incarnation = c.incarnation := rfl
@[simp] theorem Context.counted_route : c.counted.route = c.route := rfl
@[simp] theorem Context.counted_direction : c.counted.direction = c.direction := rfl
@[simp] theorem Context.counted_follow : c.counted.follow = c.follow := rfl
@[simp] theorem Context.counted_source : c.counted.source = c.source := rfl
@[simp] theorem Context.counted_refusing : c.counted.refusing = c.refusing := rfl
@[simp] theorem Context.counted_denialLogged : c.counted.denialLogged = c.denialLogged := rfl
@[simp] theorem Context.counted_request : c.counted.request = c.request := rfl
@[simp] theorem Context.counted_hold : c.counted.hold = c.hold := rfl
end

theorem State.countByte_context (s : State) (c : Context) : (s.countByte c).context = some c.counted := by
  unfold State.countByte
  dsimp only
  split <;> rfl

@[simp] theorem State.engine_countByte (s : State) (c : Context) (g : Seg) : (s.countByte c).engine g = s.engine g := by
  simp [State.engine]

@[simp] theorem State.anyNames_countByte (s : State) (c : Context) (g : Seg) (pa : Addr) :
    (s.countByte c).anyNames g pa = s.anyNames g pa := by
  simp [State.anyNames, State.records]

/-- The answer to a byte of a routed read (R70). -/
theorem exec_readByteAnswer {c : Context} {src : Source} (reads : s.Reads c src) (ack : Bool) :
    exec (.readByteAnswer ack) s = .next (s.routedReadAnswer c ack) := by
  obtain ⟨opened, port, hold, -, sent⟩ := reads
  obtain ⟨x, hx⟩ := Option.isSome_iff_exists.mp sent
  change execReadByteAnswer ack s = _
  simp only [execReadByteAnswer, hx, opened, hold, port]
  rfl

/-- A byte from the cache or the target is counted (R39, R70). -/
theorem State.deliver_eq_countByte {c : Context} (h : c.source ≠ .filler) : s.deliver c = s.countByte c := by
  unfold State.deliver
  split
  next filler => exact absurd filler h
  next => rfl

/-- An ACK of a byte from the cache or the target asks for the next (R70). -/
theorem State.routedReadAnswer_ack {c : Context} (h : c.source ≠ .filler) :
    s.routedReadAnswer c true = (s.countByte c).nextReadByte c.counted := by
  simp only [State.routedReadAnswer, State.deliver_eq_countByte h, if_true, State.countByte_context]

/-- A first miss makes a request and holds at READ_BYTE (R71). -/
theorem State.nextReadByte_miss {c : Context} {i : Word16} (source : c.source = .cache) (index : c.index = some i)
    (allowed : byteAllowed s.active c.route .read (some i) = true)
    (missed : cacheableAt s.active c.route i = false ∨ lookup s.cache (c.key i) = none) :
    s.nextReadByte c = { s with sending := none }.makeRequest { c with source := .target } c.readRequest .readByte := by
  have miss : (if cacheableAt s.active c.route i then lookup s.cache (c.key i) else none) = none := by
    rcases missed with uncacheable | absent
    · exact if_neg (ne_true_of_eq_false uncacheable)
    · rw [absent, ite_self]
  have miss' : (if cacheableAt s.active c.route i then lookup s.cache ⟨c.route.segment, c.route.paddr, i⟩ else none) = none := miss
  simp only [State.nextReadByte, source, index, allowed, Option.getD_some, Bool.not_true, Bool.false_eq_true, if_false, miss']

/-- A request made to a STUCK engine fails at once (R109, R144). -/
theorem State.makeRequest_stuck {r : Request} (stuck : (s.engine r.segment).mode = .stuck) (c : Context) (p : HoldPoint) :
    s.makeRequest c r p =
      { s with context := some { c with request := .waiting r, hold := some ⟨p, s.holdLimit⟩ } }.holdEnded
        { c with request := .waiting r, hold := some ⟨p, s.holdLimit⟩ } p :=
  (if_pos stuck).trans (State.failHold_eq (h := ⟨p, s.holdLimit⟩) rfl rfl)

/-- Settles O11: both reads are the request of the port at the engine's state. -/
theorem targetReadsRequested : Obligations.TargetReadsRequested := by
  constructor
  · intro a i s decides claims inService raw readable r c q waiting
    have passes : s.addressCheck i .read = none := by
      simp only [State.addressCheck, inService, raw, Access.allows, readable, reduceCtorEq, false_and, if_false, if_true, Bool.false_eq_true]
    have requested : exec (.addressDecode a .read) s = .next ({ s with answer := .released }.makeRequest c q .readAddress) := by
      rw [exec_addressDecode_routed decides claims]
      simp only [State.decodeRouted, passes]
      rw [State.decodeRead_raw raw, Context.readRequest_raw raw]
      rfl
    refine ⟨fun idle free => ?_, fun idle named => ?_, fun busy => ?_⟩
    · rw [requested, State.makeRequest_taken idle free, Transaction.ofRequest_eq]
      rfl
    · rw [requested, State.makeRequest_behind idle named]
    · rw [requested, State.makeRequest_waits busy (EngineMode.ne_stuck_of_outOfService inService)]
  · intro c i s reads indexed index allowed missed g u q missed'
    have source : c.source = .cache := reads.2.2.2.1
    have hu : u = s.countByte c := (State.countByte_eq s c).symm
    have requested : exec (.readByteAnswer true) s =
        .next ({ u with sending := none }.makeRequest { c.counted with source := .target } q .readByte) := by
      have request : c.counted.readRequest = q := by
        rw [Context.readRequest_indexed (c := c.counted) indexed, index]
        rfl
      rw [exec_readByteAnswer reads, State.routedReadAnswer_ack (by simp [source]), hu, ← request,
        State.nextReadByte_miss (c := c.counted) (i := i) source index (by simpa using allowed) (by simpa [Context.key] using missed)]
    have limit : u.holdLimit = s.holdLimit := by simp [hu]
    have engine : { u with sending := none }.engine g = s.engine g := by
      change u.engine g = _
      rw [hu, State.engine_countByte]
    have names : { u with sending := none }.anyNames g c.route.paddr = s.anyNames g c.route.paddr := by
      change u.anyNames g _ = _
      rw [hu, State.anyNames_countByte]
    refine ⟨fun idle free => ?_, fun idle named => ?_, fun busy live => ?_, fun stuck => ?_⟩
    · rw [requested, State.makeRequest_taken (engine ▸ idle) (names ▸ free), Transaction.ofRequest_eq]
      simp only [missed', ← limit]
      rfl
    · rw [requested, State.makeRequest_behind (engine ▸ idle) (names ▸ named)]
      simp only [missed', ← limit]
      rfl
    · rw [requested, State.makeRequest_waits (engine ▸ busy) (engine ▸ live)]
      simp only [missed', ← limit]
    · rw [requested, State.makeRequest_stuck (engine ▸ stuck)]
      rfl

end Sys2Proof.Machine
end

section
/-! PROOFS. Written and read bytes of an open routed sub-transaction (R32, R39, R40, R44, R63 to R68, R70 to R73, R117, R119, R120). -/

namespace Sys2Proof.Machine

variable {s : State}

/-! ### The context and the engine that carries its request -/

/-- A byte refused makes the port refuse the rest (R68). -/
theorem State.refuseByte_eq {c : Context} (opened : s.context = some c) :
    s.refuseByte = { s with answer := .nack, context := some { c with refusing := true } } := by
  simp [State.refuseByte, State.onContext, opened]

theorem State.engine_congr {u : State} (h : u.engines = s.engines) (g : Seg) : u.engine g = s.engine g := by
  simp [State.engine, h]

theorem State.CarriesRequest.congr {u : State} {g : Seg} {t : Transaction} {r : Request} (h : s.CarriesRequest g t r)
    (engines : u.engines = s.engines) : u.CarriesRequest g t r :=
  ⟨(congrArg Engine.mode (State.engine_congr engines g)).trans h.1, h.2⟩

/-- An engine that carries a request ends its transaction (R67, R72, R121). -/
theorem State.endEngine_eq {g : Seg} {t : Transaction} {r : Request} (h : s.CarriesRequest g t r) :
    s.endEngine g = s.setMode g (.busy t.ended) := by
  obtain ⟨carries, work⟩ := h
  have busy : (s.engine g).mode = .busy t := carries
  simp only [State.endEngine, busy, work, Transaction.orderlyEnd_eq]
  rfl

/-- An engine whose request is withdrawn goes on DETACHED along its orderly end (R121, R123). -/
theorem State.detachEngine_eq {g : Seg} {t : Transaction} {r : Request} (h : s.CarriesRequest g t r) (owed : Bool) :
    s.detachEngine g owed = s.setMode g (.busy { t.ended with work := .detached r, entryOwed := owed }) := by
  obtain ⟨carries, work⟩ := h
  have busy : (s.engine g).mode = .busy t := carries
  simp only [State.detachEngine, busy, work, Transaction.orderlyEnd_eq]
  rfl

theorem State.byteDenied_engines (s : State) (c : Context) : (s.byteDenied c).engines = s.engines := by
  unfold State.byteDenied
  split <;> simp

/-- A denied byte is logged and refused (R43, R44, R67). -/
theorem State.logDenial_refuseByte {c : Context} (opened : s.context = some c) :
    (s.logDenial c).refuseByte =
      { s.byteDenied c with
        answer := .nack,
        context := some { c with refusing := true, denialLogged := c.denialLogged || s.active.routes[c.slot].logDenials } } := by
  rw [State.logDenial_eq opened, State.refuseByte_eq rfl]

/-! ### Posted bytes -/

/-- An allowed byte of a posted write with an OPEN record (R64). -/
theorem exec_postedDataByte_open {c : Context} {r : Record} (b : Byte) (writes : s.Writes c .posted)
    (allowed : byteAllowed s.active c.route .write c.index = true) (held : s.openRecord = some r) :
    exec (.postedDataByte b) s = .next
      (if r.data.length < c.route.maxPost then s.acceptPosted c { r with data := r.data ++ [b] } b else s.refuseByte) := by
  obtain ⟨opened, port, mode, hold, refusing⟩ := writes
  change execPostedDataByte b s = _
  simp only [execPostedDataByte, opened]
  rw [if_pos ⟨port, mode, hold⟩, if_neg (by simp [refusing]), if_neg (by simp [allowed])]
  simp only [held]

/-- An allowed byte of a posted write without an OPEN record (R63). -/
theorem exec_postedDataByte_new {c : Context} (b : Byte) (writes : s.Writes c .posted)
    (allowed : byteAllowed s.active c.route .write c.index = true) (none_ : s.openRecord = none) :
    exec (.postedDataByte b) s = .next
      (if (s.engine c.route.segment).mode.outOfService then s.refuseByte
      else if s.inUse < Config.poolSize then s.acceptPosted c (openedRecord c b) b
      else
        { s with
          answer := .released, recordRequest := some b,
          context := some { c with hold := some ⟨.postByte, s.holdLimit⟩ } }) := by
  obtain ⟨opened, port, mode, hold, refusing⟩ := writes
  change execPostedDataByte b s = _
  simp only [execPostedDataByte, opened]
  rw [if_pos ⟨port, mode, hold⟩, if_neg (by simp [refusing]), if_neg (by simp [allowed])]
  simp only [none_]

/-- Settles O13: the OPEN record decides, and without one the segment and the pool. -/
theorem postedBytesTaken : Obligations.PostedBytesTaken := by
  intro b c s writes allowed told
  have opened : s.context = some c := writes.1
  split
  next r held =>
    rw [exec_postedDataByte_open b writes allowed held]
    by_cases room : r.data.length < c.route.maxPost
    · rw [if_pos room, if_pos room, State.acceptPosted_eq]
    · rw [if_neg room, if_neg room, State.refuseByte_eq opened]
  next held =>
    rw [exec_postedDataByte_new b writes allowed held]
    by_cases out : (s.engine c.route.segment).mode.outOfService = true
    · rw [if_pos out, if_pos ((EngineMode.outOfService_iff _).mp out), State.refuseByte_eq opened]
    · rw [if_neg out, if_neg (mt (EngineMode.outOfService_iff _).mpr out)]
      by_cases room : s.inUse < 48
      · rw [if_pos room, if_pos (show s.inUse < Config.poolSize from room), State.acceptPosted_eq, openedRecord_eq]
      · rw [if_neg room, if_neg (show ¬s.inUse < Config.poolSize from room)]

/-! ### Pass-through bytes -/

/-- An allowed byte of a pass-through write without a request (R66). -/
theorem exec_passDataByte_first {c : Context} (b : Byte) (writes : s.Writes c .pass)
    (allowed : byteAllowed s.active c.route .write c.index = true) (first : c.request = .absent) :
    exec (.passDataByte b) s = .next
      (if (s.engine c.route.segment).mode.outOfService then s.refuseByte
      else { s with answer := .released }.makeRequest c (c.writeRequest b) .passByte) := by
  obtain ⟨opened, port, mode, hold, refusing⟩ := writes
  change execPassDataByte b s = _
  simp only [execPassDataByte, opened]
  rw [if_pos ⟨port, mode, hold⟩, if_neg (by simp [refusing]), if_neg (by simp [allowed])]
  simp only [first]

/-- A later allowed byte goes to the engine that has taken the request (R67, R117). -/
theorem exec_passDataByte_later {c : Context} (b : Byte) (writes : s.Writes c .pass)
    (allowed : byteAllowed s.active c.route .write c.index = true) (later : c.request = .taken) :
    exec (.passDataByte b) s = .next (s.handWriteByte c b) := by
  obtain ⟨opened, port, mode, hold, refusing⟩ := writes
  change execPassDataByte b s = _
  simp only [execPassDataByte, opened]
  rw [if_pos ⟨port, mode, hold⟩, if_neg (by simp [refusing]), if_neg (by simp [allowed])]
  simp only [later]

/-- The write request in the words of the claims (R66, R109). -/
theorem Context.writeRequest_eq (c : Context) (b : Byte) :
    c.writeRequest b =
      { kind := .write, slot := c.slot, incarnation := c.incarnation, segment := c.route.segment, paddr := c.route.paddr,
        width := c.route.width, autoInc := c.route.autoInc,
        index := if c.route.width = IndexWidth.raw then none else c.index, firstByte := b } := by
  cases h : c.route.width <;> simp [Context.writeRequest, h, IndexWidth.indexed]

/-- A later byte is sent by the engine in WRITE_WAIT, and the port holds for its answer (R67, R117). -/
theorem State.handWriteByte_eq {c : Context} {t : Transaction} (b : Byte) (carries : s.Carries c.route.segment t)
    (waits : t.phase = .writeWait) :
    s.handWriteByte c b =
      { s with answer := .released, context := some { c with hold := some ⟨.passByte, s.holdLimit⟩ } }.setMode c.route.segment
        (.busy
          { t with
            phase := .writing, position := min Config.countMax (t.position + 1),
            writeIndex := advance c.route.width c.route.autoInc t.writeIndex, data := b, unanswered := true, out := .byte b }) := by
  have busy : (s.engine c.route.segment).mode = .busy t := carries
  simp only [State.handWriteByte, busy, waits, if_true]
  rfl

/-- Settles O14: the first byte is a request of the port, and a later one goes to the engine. -/
theorem passBytesHanded : Obligations.PassBytesHanded := by
  intro b c s writes allowed g held q
  have request (first : c.request = .absent) (live : (s.engine g).mode.outOfService = false) :
      exec (.passDataByte b) s = .next ({ s with answer := .released }.makeRequest c q .passByte) := by
    rw [exec_passDataByte_first b writes allowed first, if_neg (ne_true_of_eq_false live), Context.writeRequest_eq]
  refine ⟨fun first idle free => ?_, fun first idle named => ?_, fun first busy enabled live => ?_, fun first out => ?_,
    fun t later carries waits => ?_⟩
  · rw [request first (by simp [idle, EngineMode.outOfService]), State.makeRequest_taken idle free, Transaction.ofRequest_eq]
    rfl
  · rw [request first (by simp [idle, EngineMode.outOfService]), State.makeRequest_behind idle named]
  · have inService : (s.engine g).mode.outOfService = false := by
      rw [Bool.eq_false_iff, ne_eq, EngineMode.outOfService_iff]
      exact fun h => h.elim enabled live
    rw [request first inService, State.makeRequest_waits busy live]
  · rw [exec_passDataByte_first b writes allowed first, if_pos ((EngineMode.outOfService_iff _).mpr out),
      State.refuseByte_eq writes.1]
  · rw [exec_passDataByte_later b writes allowed later, State.handWriteByte_eq b carries waits]
    simp only [held, ← later]
    rfl

/-! ### Refused and denied bytes -/

/-- The row of a data byte of a write in either mode. -/
def dataRow (m : Mode) (b : Byte) : Instr :=
  match m with
  | .posted => .postedDataByte b
  | .pass => .passDataByte b

/-- While Refusing is set a data byte is answered by NACK (R68). -/
theorem exec_dataRow_refusing {c : Context} {m : Mode} (b : Byte) (opened : s.context = some c) (port : s.port = .upWrite)
    (mode : c.route.mode = m) (hold : c.hold = none) (refusing : c.refusing = true) :
    exec (dataRow m b) s = .next { s with answer := .nack } := by
  cases m
  · change execPassDataByte b s = _
    simp only [execPassDataByte, opened]
    rw [if_pos ⟨port, mode, hold⟩, if_pos refusing]
  · change execPostedDataByte b s = _
    simp only [execPostedDataByte, opened]
    rw [if_pos ⟨port, mode, hold⟩, if_pos refusing]

/-- A denied byte of either mode (R32, R64, R67). -/
theorem exec_dataRow_denied {c : Context} {m : Mode} (b : Byte) (opened : s.context = some c) (port : s.port = .upWrite)
    (mode : c.route.mode = m) (hold : c.hold = none) (refusing : c.refusing = false)
    (denied : byteAllowed s.active c.route .write c.index = false) :
    exec (dataRow m b) s = .next (s.denyWrite c) := by
  cases m
  · change execPassDataByte b s = _
    simp only [execPassDataByte, opened]
    rw [if_pos ⟨port, mode, hold⟩, if_neg (by simp [refusing]), if_pos (by simp [denied])]
  · change execPostedDataByte b s = _
    simp only [execPostedDataByte, opened]
    rw [if_pos ⟨port, mode, hold⟩, if_neg (by simp [refusing]), if_pos (by simp [denied])]

/-- Settles O15: a denied byte is logged and refused, and an engine that has the request ends. -/
theorem writeBytesRefused : Obligations.WriteBytesRefused := by
  intro b c m s opened port mode hold row denied
  have rowEq : row = dataRow m b := by cases m <;> rfl
  rw [rowEq]
  refine ⟨exec_dataRow_refusing b opened port mode hold, fun free none out => ?_, fun t r free taken carries out => ?_⟩
  · rw [exec_dataRow_denied b opened port mode hold free out, State.denyWrite, State.logDenial_refuseByte opened]
    split
    next taken => exact absurd taken none
    next => rfl
  · rw [exec_dataRow_denied b opened port mode hold free out, State.denyWrite, State.logDenial_refuseByte opened]
    split
    next => exact congrArg _ (State.endEngine_eq (s := denied) (carries.congr (State.byteDenied_engines s c)))
    next other => exact absurd taken other

end Sys2Proof.Machine
end

section
/-! PROOFS. The master's answers to read bytes, from the cache, from the target and as filler (R39, R40, R44, R70, R72, R73, R119,
R120). -/

namespace Sys2Proof.Machine

variable {s : State}

/-- The last write of a Pointer is the one that stays. -/
theorem State.setPointer_setPointer (s : State) (i : Slot) (p q : Option Word16) :
    (s.setPointer i p).setPointer i q = s.setPointer i q := by
  simp [State.setPointer, State.setRuntime, State.slotRuntime]

/-- A filler byte delivered makes the Pointer UNKNOWN and clears Follow (R40). -/
theorem State.deliver_filler {c : Context} (filler : c.source = .filler) :
    s.deliver c = { s with context := some { c.counted with follow := false } }.setPointer c.slot none := by
  simp only [State.deliver, filler, State.countByte_eq, State.followed]
  split
  next =>
    exact State.setPointer_setPointer { s with context := some { c.counted with follow := false } } c.slot _ none
  next => rfl

/-- A NACK ends the sending, and the engine's transaction where the byte came from the target (R70, R72). -/
theorem State.routedReadAnswer_nack (s : State) (c : Context) :
    s.routedReadAnswer c false =
      if c.source = .target then { s.deliver c with sending := none }.endEngine c.route.segment
      else { s.deliver c with sending := none } := by
  cases h : c.source <;> simp [State.routedReadAnswer, h]

/-- A hit at the next index is sent and its line moved to the front (R70). -/
theorem State.nextReadByte_hit {c : Context} {v : Byte} (source : c.source = .cache)
    (allowed : byteAllowed s.active c.route .read c.index = true) (cacheable : cacheableAt s.active c.route (c.index.getD 0#16) = true)
    (found : lookup s.cache (c.key (c.index.getD 0#16)) = some v) :
    s.nextReadByte c = { s with cache := toFront s.cache (c.key (c.index.getD 0#16)) v, sending := some v } := by
  have found' : lookup s.cache ⟨c.route.segment, c.route.paddr, c.index.getD 0#16⟩ = some v := found
  simp only [State.nextReadByte, source, allowed, cacheable, found', Bool.not_true, Bool.false_eq_true, if_false, if_true]
  rfl

/-- The next byte is sent as filler (R73). -/
theorem State.sendFiller_eq {c : Context} (opened : s.context = some c) :
    s.sendFiller = { s with sending := some 0xFF#8, context := some { c with source := .filler } } := by
  simp [State.sendFiller, State.onContext, opened, Config.filler]

/-- A denied index is logged and makes the bytes filler (R44, R73). -/
theorem State.logDenial_sendFiller {c : Context} (opened : s.context = some c) :
    (s.logDenial c).sendFiller =
      { s.byteDenied c with
        sending := some 0xFF#8,
        context := some { c with source := .filler, denialLogged := c.denialLogged || s.active.routes[c.slot].logDenials } } := by
  rw [State.logDenial_eq opened, State.sendFiller_eq rfl]

theorem State.nextReadByte_denied_cache {c : Context} (source : c.source = .cache)
    (denied : byteAllowed s.active c.route .read c.index = false) : s.nextReadByte c = (s.logDenial c).sendFiller := by
  simp only [State.nextReadByte, source, denied, Bool.not_false, if_true]

theorem State.nextReadByte_denied_target {c : Context} (source : c.source = .target)
    (denied : byteAllowed s.active c.route .read c.index = false) :
    s.nextReadByte c = ((s.logDenial c).sendFiller).endEngine c.route.segment := by
  simp only [State.nextReadByte, source, denied, Bool.false_eq_true, if_false]

theorem State.nextReadByte_allowed_target {c : Context} (source : c.source = .target)
    (allowed : byteAllowed s.active c.route .read c.index = true) : s.nextReadByte c = s.readOn c := by
  simp only [State.nextReadByte, source, allowed, if_true]

theorem State.nextReadByte_filler {c : Context} (opened : s.context = some c) (source : c.source = .filler) :
    s.nextReadByte c = { s with sending := some 0xFF#8 } := by
  simp only [State.nextReadByte, source, State.sendFiller_eq opened]
  cases s
  cases c
  simp_all

@[simp] theorem State.active_countByte (s : State) (c : Context) : (s.countByte c).active = s.active := by simp

@[simp] theorem State.cache_countByte (s : State) (c : Context) : (s.countByte c).cache = s.cache := by simp

/-- Settles O16: the byte is counted, and the next index decides. -/
theorem readAnswersFromCache : Obligations.ReadAnswersFromCache := by
  refine ⟨fun c s reads => ?_, fun c s reads => ?_⟩
  · have source : c.source = .cache := reads.2.2.2.1
    have live : c.source ≠ .filler := by simp [source]
    rw [exec_readByteAnswer reads, exec_readByteAnswer reads, State.routedReadAnswer_nack, if_neg (by simp [source]),
      State.deliver_eq_countByte live, State.routedReadAnswer_ack live, ← State.countByte_eq]
    refine ⟨rfl, fun v allowed cacheable found => ?_, fun denied => ?_⟩
    · rw [State.nextReadByte_hit (s := s.countByte c) (c := c.counted) source (by simpa using allowed)
        (by simpa using cacheable) (by simpa [Context.key] using found),
        State.cache_countByte]
      rfl
    · rw [State.nextReadByte_denied_cache (s := s.countByte c) (c := c.counted) source (by simpa using denied),
        State.logDenial_sendFiller (s.countByte_context c),
        State.active_countByte]
      rfl
  · have source : c.source = .filler := reads.2.2.2.1
    rw [exec_readByteAnswer reads, exec_readByteAnswer reads, State.routedReadAnswer_nack, if_neg (by simp [source]),
      ← State.deliver_filler source]
    refine ⟨rfl, ?_⟩
    have opened : (s.deliver c).context = some { c.counted with follow := false } := by
      rw [State.deliver_filler source]
      rfl
    have next : s.routedReadAnswer c true = (s.deliver c).nextReadByte { c.counted with follow := false } := by
      simp only [State.routedReadAnswer, opened, if_true]
    rw [next, State.nextReadByte_filler opened source]

/-- The engine in ACK_HOLD reads on at the next index, and the port holds for the byte (R72, R119, R120). -/
theorem State.readOn_eq {c : Context} {t : Transaction} (carries : s.Carries c.route.segment t) (waits : t.phase = .ackHold) :
    s.readOn c =
      { s with sending := none, context := some { c with hold := some ⟨.readByte, s.holdLimit⟩ } }.setMode c.route.segment
        (.busy
          { t with
            phase := .reading,
            readIndex := if c.route.width = IndexWidth.raw then t.readIndex
              else advance c.route.width c.route.autoInc t.readIndex,
            out := .ninthBit true .ackHold }) := by
  have busy : (s.engine c.route.segment).mode = .busy t := carries
  simp only [State.readOn, busy, waits, if_true]
  cases c.route.width <;> rfl

theorem Transaction.ended_of_ackHold {t : Transaction} (h : t.phase = .ackHold) :
    t.ended = { t with phase := .stopping, out := .ninthBit false .ackHold } := by
  simp [Transaction.ended, h]

/-- Settles O17: the answer reaches the engine that holds the byte. -/
theorem readAnswersFromTarget : Obligations.ReadAnswersFromTarget := by
  intro c t r s reads carries work waits u
  have source : c.source = .target := reads.2.2.2.1
  have live : c.source ≠ .filler := by simp [source]
  have hu : u = s.countByte c := (State.countByte_eq s c).symm
  have limit : (s.countByte c).holdLimit = s.holdLimit := by simp
  have held : (s.countByte c).CarriesRequest c.route.segment t r :=
    State.CarriesRequest.congr (s := s) ⟨carries, work⟩ (by simp)
  rw [exec_readByteAnswer reads, exec_readByteAnswer reads, State.routedReadAnswer_nack, if_pos source,
    State.deliver_eq_countByte live, State.routedReadAnswer_ack live, hu]
  refine ⟨?_, fun allowed => ?_, fun denied => ?_⟩
  · rw [State.endEngine_eq (s := { s.countByte c with sending := none }) held, Transaction.ended_of_ackHold waits]
  · rw [State.nextReadByte_allowed_target (s := s.countByte c) (c := c.counted) source (by simpa using allowed),
      State.readOn_eq (s := s.countByte c) (c := c.counted) held.1 waits, limit]
    rfl
  · rw [State.nextReadByte_denied_target (s := s.countByte c) (c := c.counted) source (by simpa using denied),
      State.logDenial_sendFiller (s.countByte_context c),
      State.active_countByte]
    refine congrArg _ ((State.endEngine_eq (held.congr ?_)).trans ?_)
    · exact State.byteDenied_engines _ _
    · rw [Transaction.ended_of_ackHold waits]
      rfl

end Sys2Proof.Machine
end

section
/-! PROOFS. Management frames: the frame of a command and back, and what a frame amounts to at the P or Sr that ends it (R46, R183,
R185, R187 to R189, R205). -/

namespace Sys2Proof.Machine

variable {s : State}

/-! ### The frame of a command -/

/-- A command has as many operand bytes as its code is listed with (R205). -/
theorem operandLength_commandCode (c : MgmtCommand) :
    operandLength (commandCode c) = some (commandOperands c).length := by
  cases c <;> rfl

/-- The operand bytes of a command give it back; its words are joined from their two bytes (R205, R209). -/
theorem decodeCommand_commandOperands (c : MgmtCommand) : decodeCommand (commandCode c) (commandOperands c) = some c := by
  cases c
  case windowStage w low high access cacheable =>
    exact congrArg₂ (fun l h => some (MgmtCommand.windowStage w l h access cacheable)) (joinBytes_hiByte_loByte low)
      (joinBytes_hiByte_loByte high)
  case commit expected => exact congrArg (fun w => some (MgmtCommand.commit w)) (joinBytes_hiByte_loByte expected)
  case cacheProbe g pa index =>
    exact congrArg (fun w => some (MgmtCommand.cacheProbe g pa w)) (joinBytes_hiByte_loByte index)
  case logRelease q => exact congrArg (fun w => some (MgmtCommand.logRelease w)) (joinBytes_hiByte_loByte q)
  all_goals rfl

theorem decodeFrame_encodeFrame (tag : Byte) (c : MgmtCommand) : decodeFrame (encodeFrame tag c) false = .command tag c := by
  simp only [decodeFrame, encodeFrame, operandLength_commandCode, decodeCommand_commandOperands, Bool.false_eq_true, if_false]

/-- Settles O19: the code gives the operand length, and the operands give the command. -/
theorem frameRoundTrip : Obligations.FrameRoundTrip := fun tag c =>
  ⟨decodeFrame_encodeFrame tag c, by simp [operandLength_commandCode, encodeFrame]⟩

/-! ### The end of a management write -/

/-- A management write ends at a P or at either START, which its frame's end precedes (R46, R47, R185). -/
theorem exec_ends_frame (lines : SegSamples) (ready : s.Ready) (port : s.port = .upMgmtWrite) :
    exec (.upstreamStop lines) s = .next { s.endFrame lines with port := .upIdle, answer := .released, sending := none } ∧
    exec (.upstreamRepeatedStart lines) s =
      .next { s.endFrame lines with port := .upAddress, answer := .released, sending := none } ∧
    exec (.upstreamStart lines) s =
      .next { s.endFrame lines with port := .upAddress, answer := .released, sending := none } := by
  obtain ⟨running, closed⟩ := ready
  have free := State.scluHeld_of_closed closed
  have live : s.power ≠ .inReset := by simp [running]
  have open_ : s.port ≠ .upIdle := by simp [port]
  have ended (next : PortState) : s.endSubTransaction lines next =
      { s.endFrame lines with port := next, answer := .released, sending := none } := by
    simp only [State.endSubTransaction, port, if_true]
  rw [exec_upstreamStop lines free open_, exec_upstreamRepeatedStart lines free live open_,
    exec_upstreamStart lines free live open_, ended, ended]
  exact ⟨rfl, rfl, rfl⟩

/-- What a frame in progress amounts to at its end (R185, R187, R188). -/
def State.frameResult (s : State) : FrameResult := decodeFrame s.buffer (s.frame == .overrun)

theorem State.endFrame_empty (lines : SegSamples) (open_ : s.frame ≠ .noFrame) (h : s.frameResult = .empty) :
    s.endFrame lines = { s with frame := .noFrame, buffer := [] } := by
  unfold State.endFrame
  split
  next closed => exact absurd closed open_
  next => simp only [show decodeFrame s.buffer (s.frame == .overrun) = _ from h]

theorem State.endFrame_badLength {tag : Byte} (lines : SegSamples) (open_ : s.frame ≠ .noFrame) (h : s.frameResult = .badLength tag) :
    s.endFrame lines = s.answered tag .badLength [] := by
  unfold State.endFrame
  split
  next closed => exact absurd closed open_
  next => simp only [show decodeFrame s.buffer (s.frame == .overrun) = _ from h, State.finish_replyCode]

theorem State.endFrame_badCommand {tag : Byte} (lines : SegSamples) (open_ : s.frame ≠ .noFrame)
    (h : s.frameResult = .badCommand tag) : s.endFrame lines = s.answered tag .badCommand [] := by
  unfold State.endFrame
  split
  next closed => exact absurd closed open_
  next => simp only [show decodeFrame s.buffer (s.frame == .overrun) = _ from h, State.finish_replyCode]

theorem State.endFrame_command {tag : Byte} {c : MgmtCommand} (lines : SegSamples) (open_ : s.frame ≠ .noFrame)
    (h : s.frameResult = .command tag c) : s.endFrame lines = State.finish tag (perform c lines s) := by
  unfold State.endFrame
  split
  next closed => exact absurd closed open_
  next => simp only [show decodeFrame s.buffer (s.frame == .overrun) = _ from h]

/-- A frame still collecting is checked as it stands. -/
theorem State.frameResult_collecting {frame : List Byte} (collecting : s.frame = .collecting) (held : s.buffer = frame) :
    s.frameResult = decodeFrame frame false := by
  rw [State.frameResult, collecting, held]
  rfl

/-! ### Frames that are commands -/

/-- A row that samples the levels of its own segment samples those that the condition carries (R148). -/
theorem perform_rowLevels {c : MgmtCommand} {lines : SegSamples} {levels : LineLevels} (s : State)
    (agree : ∀ (b : Byte) (g : Seg), c = .segEnable b → b.toNat = g.val → levelOf lines g = levels) :
    perform c (rowLevels lines levels c) s = perform c lines s := by
  cases c
  case segEnable b =>
    change cmdSegEnable b (sameLevels levels) s = cmdSegEnable b lines s
    unfold cmdSegEnable
    split
    next => rfl
    next g named =>
      have own := agree b g rfl (((byteOf_eq_iff (by omega) b).mp ((segOf_eq_some_iff b g).mp named)))
      have same : levelOf (sameLevels levels) g = levelOf lines g := by rw [own]; fin_cases g <;> rfl
      rw [same]
  all_goals rfl

/-- Settles O20: the row and the end of the frame are the same execution. -/
theorem stopExecutesFrame : Obligations.StopExecutesFrame := by
  intro tag c lines levels s ready port collecting held agree
  have result : s.frameResult = .command tag c :=
    (State.frameResult_collecting collecting held).trans (decodeFrame_encodeFrame tag c)
  have executed := State.endFrame_command lines (by simp [collecting]) result
  refine ⟨State.finish tag (perform c lines s), ?_, executed ▸ exec_ends_frame lines ready port⟩
  rw [exec_managementRow, ready.execute_eq, perform_rowLevels s agree]

/-! ### Frames that are no command -/

/-- A reader of operand bytes takes no other number of them than `n`. -/
def TakesOnly (n : Nat) (f : List Byte → Option MgmtCommand) : Prop := ∀ l : List Byte, l.length ≠ n → f l = none

theorem TakesOnly.zero {f : List Byte → Option MgmtCommand} (more : ∀ b l, f (b :: l) = none) : TakesOnly 0 f
  | [], wrong => absurd rfl wrong
  | b :: l, _ => more b l

theorem TakesOnly.succ {f : List Byte → Option MgmtCommand} {n : Nat} (fewer : f [] = none)
    (rest : ∀ b, TakesOnly n fun l => f (b :: l)) : TakesOnly (n + 1) f
  | [], _ => fewer
  | b :: l, wrong => rest b l fun same => wrong (congrArg (· + 1) same)

/-- Only as many operands as the code is listed with make a command (R205). -/
theorem takesOnly_decodeCommand {code : Byte} {n : Nat} (known : operandLength code = some n) :
    TakesOnly n (decodeCommand code) := by
  have numeral : code = BitVec.ofNat 8 code.toNat := by simp
  unfold operandLength at known
  split at known
  case h_21 => cases known
  all_goals
    rename_i value
    rw [value] at numeral
    subst numeral
    cases known
    repeat refine .succ rfl fun _ => ?_
    exact .zero fun _ _ => rfl

/-- A known code with a wrong number of operands is a frame of a wrong length (R188). -/
theorem decodeFrame_wrongCount {code tag : Byte} {operands : List Byte} {n : Nat} (known : operandLength code = some n)
    (wrong : operands.length ≠ n) : decodeFrame (code :: tag :: operands) false = .badLength tag := by
  have none_ : decodeCommand code operands = none := takesOnly_decodeCommand known operands wrong
  simp only [decodeFrame, known, none_, Bool.false_eq_true, if_false]

/-- A code that names no command makes no command (R188). -/
theorem decodeFrame_unknown {code tag : Byte} {operands : List Byte} (unknown : operandLength code = none) :
    decodeFrame (code :: tag :: operands) false = .badCommand tag := by
  simp only [decodeFrame, unknown, Bool.false_eq_true, if_false]

/-- The row of a frame of a wrong length, whose operands are such a frame (R185, R188, R189). -/
theorem exec_badLength (ready : s.Ready) {frame : List Byte} {overrun : Bool} (wf : (Instr.badLength frame overrun).wf = true) :
    exec (.badLength frame overrun) s = .next (s.answered (frame[1]?.getD 0#8) .badLength []) :=
  (if_pos wf).trans (ready.execute_eq _ _)

/-- Settles O21: the checks of a frame in their order, at its end and as rows. -/
theorem frameChecks : Obligations.FrameChecks := by
  refine ⟨fun lines s ready port => ?_, fun s ready => ⟨fun code tag unknown => ?_, fun b => exec_badLength ready rfl,
    fun code tag operands full => exec_badLength ready ?_, fun code tag operands n known wrong fits => exec_badLength ready ?_⟩⟩
  · intro ends
    have ends_of {u : State} (h : s.endFrame lines = u) : ends u := h ▸ exec_ends_frame lines ready port
    refine ⟨fun collecting held => ends_of ?_, fun b collecting held => ends_of ?_, fun code tag operands overrun held => ends_of ?_,
      fun code tag operands collecting held unknown => ends_of ?_,
      fun code tag operands n collecting held known wrong => ends_of ?_⟩
    · exact State.endFrame_empty lines (by simp [collecting]) (State.frameResult_collecting collecting held)
    · exact State.endFrame_badLength lines (by simp [collecting]) (State.frameResult_collecting collecting held)
    · exact State.endFrame_badLength lines (by simp [overrun]) (by rw [State.frameResult, overrun, held]; rfl)
    · exact State.endFrame_badCommand lines (by simp [collecting])
        ((State.frameResult_collecting collecting held).trans (decodeFrame_unknown unknown))
    · exact State.endFrame_badLength lines (by simp [collecting])
        ((State.frameResult_collecting collecting held).trans (decodeFrame_wrongCount known wrong))
  · exact (if_pos (by simp [Instr.wf, unknown])).trans (ready.execute_eq _ _)
  · simp [Instr.wf, full, Config.commandBytes]
  · have room : operands.length + 1 + 1 ≤ 20 := by omega
    simp [Instr.wf, known, wrong, Config.commandBytes, room]

end Sys2Proof.Machine
end

section
/-! PROOFS. The rest of the management commands: ABANDON, ROUTE_STATE, ROUTE_RESUME, the segment commands without a discard, and the log
commands (R19, R21, R22, R108, R126, R127, R146, R148, R176, R177, R179). -/

namespace Sys2Proof.Machine

variable {s : State}

/-! ### ABANDON, ROUTE_STATE and ROUTE_RESUME -/

theorem exec_routeState (ready : s.Ready) (tag slot : Byte) :
    exec (.routeState tag slot) s = .next (State.finish tag (cmdRouteState slot s)) := ready.execute_eq tag _

theorem exec_routeResume (ready : s.Ready) (tag slot : Byte) :
    exec (.routeResume tag slot) s = .next (State.finish tag (cmdRouteResume slot s)) := ready.execute_eq tag _

/-- The payload of ROUTE_STATE in the words of the claims (R21, R210). -/
theorem routeStatePayload_eq (valid : Bool) (r : Runtime) :
    routeStatePayload valid r =
      [BitVec.ofNat 8 ((if valid then 1 else 0) + (if r.faulted then 2 else 0) + (if r.pointer = none then 0 else 4)),
       (r.pointer.getD 0#16).extractLsb' 8 8, (r.pointer.getD 0#16).setWidth 8, BitVec.ofNat 8 r.pending, r.incarnation] := by
  simp only [routeStatePayload, wordBytes, hiByte_eq_extract, loByte_eq_setWidth]
  cases r.pointer <;> rfl

/-- Settles O30: a slot byte names a slot, or is refused. -/
theorem abandonStateResume : Obligations.AbandonStateResume := by
  refine fun tag slot s ready => ⟨ready.execute_eq tag cmdAbandon, fun i named => ⟨?_, ?_⟩, fun unknown => ⟨?_, ?_⟩⟩
  · simp only [exec_routeState ready, cmdRouteState, (slotOf_eq_some_iff slot i).mpr named, State.finish_reply,
      routeStatePayload_eq]
  · simp only [exec_routeResume ready, cmdRouteResume, (slotOf_eq_some_iff slot i).mpr named, State.finish_replyCode]
  · simp only [exec_routeState ready, cmdRouteState, (slotOf_eq_none_iff slot).mpr unknown, State.finish_replyCode]
  · simp only [exec_routeResume ready, cmdRouteResume, (slotOf_eq_none_iff slot).mpr unknown, State.finish_replyCode]

/-! ### SEG_CONFIG -/

theorem exec_segConfig (ready : s.Ready) (tag segment speed timeout : Byte) :
    exec (.segConfig tag segment speed timeout) s = .next (State.finish tag (cmdSegConfig segment speed timeout s)) :=
  ready.execute_eq tag _

theorem speedOf_eq_none_iff (b : Byte) : speedOf b = none ↔ 3 ≤ b.toNat := by
  revert b
  decide

/-- A speed byte of 0, 1 or 2 names a speed (R206). -/
theorem speedOf_of_lt {b : Byte} (h : b.toNat < 3) :
    speedOf b = some (if b = 0#8 then .khz100 else if b = 1#8 then .khz400 else .mhz1) := by
  revert b
  decide

/-- A number byte outside its range names no number. -/
theorem numberOf_eq_none {lo hi : Nat} {b : Byte} (h : b.toNat < lo ∨ hi < b.toNat) : numberOf lo hi b = none :=
  if_neg (by omega)

/-- SEG_CONFIG refuses a speed or a timeout out of range (R108). -/
theorem cmdSegConfig_badValue {segment speed timeout : Byte} {g : Seg} (named : segment.toNat = g.val)
    (bad : 3 ≤ speed.toNat ∨ timeout.toNat = 0 ∨ 100 < timeout.toNat) (s : State) :
    cmdSegConfig segment speed timeout s = (s, replyCode .badValue) := by
  simp only [cmdSegConfig, segOf_of_toNat_eq named]
  rcases bad with fast | outside
  · simp only [(speedOf_eq_none_iff speed).mpr fast]
  · have none_ : numberOf 1 100 timeout = none := numberOf_eq_none (by omega)
    cases speedOf speed <;> simp only [none_]

/-- SEG_CONFIG in range is BUSY, or sets both settings on a DISABLED engine (R108). -/
theorem cmdSegConfig_eq {segment speed timeout : Byte} {g : Seg} (named : segment.toNat = g.val) (slow : speed.toNat < 3)
    (low : 1 ≤ timeout.toNat) (high : timeout.toNat ≤ 100) (s : State) :
    cmdSegConfig segment speed timeout s =
      if (s.engine g).mode = .disabled then
        (s.setEngine g
          { mode := .disabled, speed := if speed = 0#8 then .khz100 else if speed = 1#8 then .khz400 else .mhz1,
            timeout := timeout.toNat }, replyCode .ok)
      else (s, replyCode .busy) := by
  have number : numberOf 1 100 timeout = some timeout.toNat := if_pos ⟨low, high⟩
  simp only [cmdSegConfig, segOf_of_toNat_eq named, speedOf_of_lt slow, number]
  cases (s.engine g).mode <;> rfl

/-! ### SEG_DISABLE -/

theorem exec_segDisable (ready : s.Ready) (tag segment force : Byte) :
    exec (.segDisable tag segment force) s = .next (State.finish tag (cmdSegDisable segment force s)) := ready.execute_eq tag _

theorem State.hasRecords_iff (s : State) (g : Seg) : s.hasRecords g = true ↔ ∃ r ∈ s.records, r.segment = g := by
  simp [State.hasRecords]

/-- What SEG_DISABLE does with a segment and a FORCE byte in range (R127). -/
theorem cmdSegDisable_eq {segment force : Byte} {g : Seg} (named : segment.toNat = g.val) (flag : force.toNat ≤ 1) (s : State) :
    cmdSegDisable segment force s =
      if (s.engine g).mode = .disabled then (s, replyCode .ok)
      else if (s.engine g).mode = .stuck ∨ ((s.engine g).mode = .idle ∧ s.hasRecords g = false) then
        (s.setMode g .disabled, replyCode .ok)
      else if force = 1#8 then (s.forceDisable g, replyCode .ok)
      else (s, replyCode .busy) := by
  simp only [cmdSegDisable, segOf_of_toNat_eq named, boolOf_of_le_one flag]
  cases (s.engine g).mode <;> simp

/-- Settles O31: the checks of both commands in their order. -/
theorem segConfigAndDisable : Obligations.SegConfigAndDisable := by
  refine ⟨fun tag segment speed timeout s ready => ?_, fun tag segment force s ready => ?_⟩
  · simp only [exec_segConfig ready]
    refine ⟨fun unknown => ?_, fun g named => ⟨fun bad => ?_, fun slow low high live => ?_, fun slow low high off => ?_⟩⟩
    · simp only [cmdSegConfig, (segOf_eq_none_iff segment).mpr unknown, State.finish_replyCode]
    · rw [cmdSegConfig_badValue named bad, State.finish_replyCode]
    · rw [cmdSegConfig_eq named slow low high, if_neg live, State.finish_replyCode]
    · rw [cmdSegConfig_eq named slow low high, if_pos off, State.finish_replyCode]
  · simp only [exec_segDisable ready]
    refine ⟨fun unknown => ?_, fun g named => ⟨fun bad => ?_, fun flag off => ?_, fun flag free => ?_, ?_⟩⟩
    · simp only [cmdSegDisable, (segOf_eq_none_iff segment).mpr unknown, State.finish_replyCode]
    · simp only [cmdSegDisable, segOf_of_toNat_eq named, (boolOf_eq_none_iff force).mpr bad, State.finish_replyCode]
    · rw [cmdSegDisable_eq named flag, if_pos off, State.finish_replyCode]
    · have enabled : (s.engine g).mode ≠ .disabled := by
        rcases free with stuck | ⟨idle, -⟩
        · simp [stuck]
        · simp [idle]
      have unused : (s.engine g).mode = .stuck ∨ ((s.engine g).mode = .idle ∧ s.hasRecords g = false) := by
        refine free.imp_right fun ⟨idle, none_⟩ => ⟨idle, ?_⟩
        rw [Bool.eq_false_iff, ne_eq, State.hasRecords_iff]
        exact fun ⟨r, mem, same⟩ => none_ r mem same
      rw [cmdSegDisable_eq named flag, if_neg enabled, if_pos unused, State.finish_replyCode]
    · rintro rfl enabled unstuck used
      have inUse : ¬((s.engine g).mode = .stuck ∨ ((s.engine g).mode = .idle ∧ s.hasRecords g = false)) := by
        rintro (stuck | ⟨idle, none_⟩)
        · exact unstuck stuck
        · exact ne_true_of_eq_false none_ ((s.hasRecords_iff g).mpr (used idle))
      rw [cmdSegDisable_eq named (by decide), if_neg enabled, if_neg inUse, if_neg (by decide), State.finish_replyCode]

/-! ### SEG_ENABLE and SEG_RECOVER -/

theorem exec_segEnable (ready : s.Ready) (tag segment : Byte) (levels : LineLevels) :
    exec (.segEnable tag segment levels) s = .next (State.finish tag (cmdSegEnable segment (sameLevels levels) s)) :=
  ready.execute_eq tag _

theorem exec_segRecover (ready : s.Ready) (tag segment : Byte) :
    exec (.segRecover tag segment) s = .next (State.finish tag (cmdSegRecover segment s)) := ready.execute_eq tag _

@[simp] theorem levelOf_sameLevels (l : LineLevels) (g : Seg) : levelOf (sameLevels l) g = l := by
  fin_cases g <;> rfl

/-- What SEG_ENABLE does with a segment (R126, R148). -/
theorem cmdSegEnable_eq {segment : Byte} {g : Seg} (named : segment.toNat = g.val) (lines : SegSamples) (s : State) :
    cmdSegEnable segment lines s =
      if (s.engine g).mode = .disabled then
        (s.setMode g (sampledMode (levelOf lines g)), reply .ok [(sampledMode (levelOf lines g)).value])
      else (s, reply .ok [(s.engine g).mode.value]) := by
  simp only [cmdSegEnable, segOf_of_toNat_eq named]
  cases h : (s.engine g).mode <;> rfl

/-- What SEG_RECOVER does with a segment (R146). -/
theorem cmdSegRecover_eq {segment : Byte} {g : Seg} (named : segment.toNat = g.val) (s : State) :
    cmdSegRecover segment s =
      if (s.engine g).mode = .idle ∨ (s.engine g).mode = .stuck then
        (s.setMode g (.recovery (Procedure.start true)), ⟨.pending, [byteOf g.val], .recovering g⟩)
      else (s, replyCode .busy) := by
  simp only [cmdSegRecover, segOf_of_toNat_eq named]
  cases (s.engine g).mode <;> simp

/-- Settles O32: the engine's state decides. -/
theorem segEnableAndRecover : Obligations.SegEnableAndRecover := by
  intro tag segment levels s ready
  simp only [exec_segEnable ready, exec_segRecover ready]
  refine ⟨fun unknown => ⟨?_, ?_⟩, fun g named => ⟨fun off => ?_, fun on => ?_, fun free => ?_, fun live unstuck => ?_⟩⟩
  · simp only [cmdSegEnable, (segOf_eq_none_iff segment).mpr unknown, State.finish_replyCode]
  · simp only [cmdSegRecover, (segOf_eq_none_iff segment).mpr unknown, State.finish_replyCode]
  · rw [cmdSegEnable_eq named, if_pos off, State.finish_reply, levelOf_sameLevels]
    cases hscl : levels.scl <;> cases hsda : levels.sda <;> simp [sampledMode, hscl, hsda, Procedure.start, EngineMode.value]
  · rw [cmdSegEnable_eq named, if_neg on, State.finish_reply]
  · have same : byteOf g.val = segment := (byteOf_eq_iff (by omega) segment).mpr named
    rw [cmdSegRecover_eq named, if_pos free, same]
    rfl
  · rw [cmdSegRecover_eq named, if_neg (by tauto), State.finish_replyCode]

/-! ### The log commands -/

theorem exec_logRead (ready : s.Ready) (tag position : Byte) :
    exec (.logRead tag position) s = .next (State.finish tag (cmdLogRead position s)) := ready.execute_eq tag _

theorem exec_logRelease (ready : s.Ready) (tag : Byte) (q : Word16) :
    exec (.logRelease tag q) s = .next (State.finish tag (cmdLogRelease q s)) := ready.execute_eq tag _

/-- The entry of a sequence number stands behind the older ones (R177). -/
theorem findIdx?_eq_length {older newer : List Entry} {e : Entry} {q : Word16} (same : e.seqNumber = q)
    (others : ∀ x ∈ older, x.seqNumber ≠ q) : (older ++ e :: newer).findIdx? (fun x => x.seqNumber == q) = some older.length := by
  have none_ : older.findIdx? (fun x => x.seqNumber == q) = none := by simpa using others
  rw [List.findIdx?_append, none_, List.findIdx?_cons]
  simp [same]

/-- LOG_RELEASE of an entry that is present (R177). -/
theorem cmdLogRelease_found {older newer : List Entry} {e : Entry} {q : Word16} (log : s.log = older ++ e :: newer)
    (same : e.seqNumber = q) (others : ∀ x ∈ older, x.seqNumber ≠ q) :
    cmdLogRelease q s =
      ({ s with log := newer, lost := if newer = [] then 0 else s.lost },
        reply .ok [byteOf (older.length + 1), byteOf newer.length, byteOf (if newer = [] then 0 else s.lost)]) := by
  have found := findIdx?_eq_length (newer := newer) same others
  have rest : (older ++ e :: newer).drop (older.length + 1) = newer := by simp
  simp only [cmdLogRelease, log, found, rest, List.isEmpty_iff]

/-- Settles O35: a position is read, and a sequence number found or refused. -/
theorem logCommandsAnswer : Obligations.LogCommandsAnswer := by
  intro tag position q s ready count
  simp only [exec_logRead ready, exec_logRelease ready]
  refine ⟨fun e there => ?_, fun past => ?_, fun older newer e log same others => ⟨?_, ?_⟩, fun absent => ?_⟩
  · simp only [cmdLogRead, there, State.finish_reply]
    rfl
  · simp only [cmdLogRead, List.getElem?_eq_none past, State.finish_reply]
    rfl
  · rw [cmdLogRelease_found log same others, State.finish_reply]
    rfl
  · have held : s.log ≠ [] := by simp [log]
    simp [State.alertLow_iff, State.answered, held]
  · have none_ : s.log.findIdx? (fun e => e.seqNumber == q) = none := by simpa using absent
    simp only [cmdLogRelease, none_, State.finish_reply, wordBytes, hiByte_eq_extract, loByte_eq_setWidth, count]
    cases s.log <;> rfl

end Sys2Proof.Machine
end

section
/-! PROOFS. The commands that discard records or change the active tables: SEG_DISABLE with FORCE, WARM_RESTART and COMMIT (R13, R25 to
R27, R97 to R101, R124, R128, R129, R156, R159, R200). -/

namespace Sys2Proof.Machine

variable {s : State}

/-! ### Discards -/

/-- A free record goes to no byte where there is no context (R82). -/
theorem State.grantRecord_closed (closed : s.context = none) : s.grantRecord = s := by
  unfold State.grantRecord
  split
  next _ opened => simp [closed] at opened
  next => rfl

/-- A bulk discard outside a sub-transaction (R97). -/
theorem State.bulkDiscard_closed (closed : s.context = none) (g : Seg) (cause : DiscardCause) :
    s.bulkDiscard g cause = s.discarded g cause.value := by
  have closed' : (s.discarded g cause.value).context = none := by
    unfold State.discarded
    dsimp only
    split <;> simp [closed]
  rw [State.bulkDiscard_eq, State.grantRecord_closed closed']

section
variable (s : State) (g : Seg) (cause : Byte)

/-- What a bulk discard leaves alone. -/
@[simp] theorem State.discarded_frame :
    (s.discarded g cause).power = s.power ∧ (s.discarded g cause).mga = s.mga ∧ (s.discarded g cause).active = s.active ∧
    (s.discarded g cause).staged = s.staged ∧ (s.discarded g cause).generation = s.generation ∧
    (s.discarded g cause).dirty = s.dirty ∧ (s.discarded g cause).port = s.port ∧ (s.discarded g cause).answer = s.answer ∧
    (s.discarded g cause).sending = s.sending ∧ (s.discarded g cause).readPos = s.readPos ∧
    (s.discarded g cause).recordRequest = s.recordRequest ∧ (s.discarded g cause).engines = s.engines ∧
    (s.discarded g cause).cache = s.cache ∧ (s.discarded g cause).commitMarks = s.commitMarks ∧
    (s.discarded g cause).frame = s.frame ∧ (s.discarded g cause).buffer = s.buffer ∧
    (s.discarded g cause).response = s.response ∧ (s.discarded g cause).holdLimit = s.holdLimit ∧
    (s.discarded g cause).idleLimit = s.idleLimit ∧ (s.discarded g cause).alertEnable = s.alertEnable ∧
    (s.discarded g cause).pending = s.pending := by
  unfold State.discarded
  dsimp only
  split <;> simp

@[simp] theorem State.list_discarded (h : Seg) : (s.discarded g cause).list h = if g = h then [] else s.list h := by
  rw [← State.list_setList]
  unfold State.discarded
  dsimp only
  split
  · rfl
  · simp [State.list]

/-- Each slot's Pending falls by its listed records of the current incarnation (R97). -/
@[simp] theorem State.slotRuntime_discarded (i : Slot) :
    (s.discarded g cause).slotRuntime i =
      { s.slotRuntime i with
        pending := (s.slotRuntime i).pending - (s.list g).countP (·.belongs i (s.slotRuntime i).incarnation) } := by
  unfold State.discarded
  dsimp only
  split <;> simp [State.slotRuntime]

/-- An OPEN record of the segment goes too (R99). -/
@[simp] theorem State.openRecord_discarded :
    (s.discarded g cause).openRecord = if s.openRecord.any (fun x => x.segment == g) then none else s.openRecord := by
  unfold State.discarded
  dsimp only
  split <;> simp

/-- A write that loses its OPEN record is refused (R65). -/
@[simp] theorem State.context_discarded :
    (s.discarded g cause).context =
      s.context.map fun c => { c with refusing := c.refusing || s.openRecord.any fun x => x.segment == g } := by
  unfold State.discarded
  dsimp only
  split <;> simp

end

/-! ### SEG_DISABLE with FORCE -/

/-- The abort, the discard and DISABLED (R128). -/
theorem State.forceDisable_eq (closed : s.context = none) (g : Seg) :
    s.forceDisable g =
      { ((s.aborted g).discarded g 0x01#8).setMode g .disabled with commitMarks := s.commitMarks.set g false } := by
  have closed' : (s.abortEngine g).context = none := by simp [closed]
  have marks : ((s.aborted g).discarded g 0x01#8).commitMarks = s.commitMarks := by
    rw [← State.abortEngine_eq]
    simp
  rw [State.forceDisable, State.bulkDiscard_closed closed', State.abortEngine_eq, ← marks]
  rfl

/-- Settles O33: FORCE reaches the abort and the discard wherever there is something to discard. -/
theorem segDisableForces : Obligations.SegDisableForces := by
  intro tag g s ready enabled unstuck used
  have inUse : ¬((s.engine g).mode = .stuck ∨ ((s.engine g).mode = .idle ∧ s.hasRecords g = false)) := by
    rintro (stuck | ⟨idle, none_⟩)
    · exact unstuck stuck
    · exact ne_true_of_eq_false none_ ((s.hasRecords_iff g).mpr (used idle))
  have named : (BitVec.ofNat 8 g.val).toNat = g.val := by simp; omega
  refine ⟨_, exec_segDisable ready tag _ _, fun i => ?_, ?_⟩
  all_goals
    rw [cmdSegDisable_eq named (by decide), if_neg enabled, if_neg inUse, if_pos rfl, State.finish_replyCode,
      State.forceDisable_eq ready.2]
  have kept : (s.aborted g).slotRuntime i = s.slotRuntime i ∧ (s.aborted g).list g = s.list g := by
    rw [← State.abortEngine_eq]
    simp [State.slotRuntime, State.list]
  rw [← kept.1, ← kept.2]
  exact State.slotRuntime_discarded _ _ _ i

/-! ### WARM_RESTART -/

/-- The log after the report of an abort depends on the log and the engine's transaction alone (R124). -/
theorem State.logPart_aborted_congr {t : State} {g : Seg} (log : t.logPart = s.logPart)
    (mode : (t.engine g).mode = (s.engine g).mode) : (t.aborted g).logPart = (s.aborted g).logPart := by
  have late (u : Transaction) (r : Request) (e : Entry) :
      (if u.unanswered then
          if u.entryOwed then { t with cache := t.lineDropped r u.writeIndex }.append e
          else { t with cache := t.lineDropped r u.writeIndex }
        else t).logPart =
      (if u.unanswered then
          if u.entryOwed then { s with cache := s.lineDropped r u.writeIndex }.append e
          else { s with cache := s.lineDropped r u.writeIndex }
        else s).logPart := by
    split_ifs
    · rw [State.logPart_append, State.logPart_append]
      exact congrArg (LogPart.add · e) log
    · exact log
    · exact log
  unfold State.aborted
  dsimp only
  rw [mode]
  split
  · split
    · exact log
    · exact late _ _ _
    · exact late _ _ _
  · exact log

/-- A restart reports what an abort of the engine reports (R124, R129). -/
theorem State.logPart_restartEngine (s : State) (lines : SegSamples) (g : Seg) :
    (s.restartEngine lines g).logPart = (s.aborted g).logPart := by
  unfold State.restartEngine
  split
  next off => simp only [State.aborted, off]
  next stuck => simp only [State.aborted, stuck]
  next =>
    rw [← State.abortEngine_eq]
    rfl

/-- The log after a bulk discard depends on the log, the lists and the OPEN record alone (R101). -/
theorem State.logPart_discarded_congr {t : State} (log : t.logPart = s.logPart) (lists : t.lists = s.lists)
    (opened : t.openRecord = s.openRecord) (g : Seg) (cause : Byte) :
    (t.discarded g cause).logPart = (s.discarded g cause).logPart := by
  have list : t.list g = s.list g := by simp [State.list, lists]
  unfold State.discarded
  dsimp only
  rw [list, opened]
  split
  · exact log
  · rw [State.logPart_append, State.logPart_append]
    exact congrArg (LogPart.add · _) log

/-- An engine at WARM_RESTART (R129, R148). -/
def Engine.restarted (e : Engine) (l : LineLevels) : Engine :=
  if e.mode = .disabled ∨ e.mode = .stuck then e
  else
    { e with
      mode := if l.scl = true ∧ l.sda = true then .idle else .recovery { step := .opening, pulses := 0, byCommand := false } }

/-- The mode that a sample of the lines gives, in the words of the claims (R148). -/
theorem sampledMode_eq (l : LineLevels) :
    sampledMode l =
      if l.scl = true ∧ l.sda = true then .idle else .recovery { step := .opening, pulses := 0, byCommand := false } := by
  simp [sampledMode, Procedure.start]

/-- A DISABLED or STUCK engine stays as it is (R129). -/
theorem State.restartEngine_of_out {g : Seg} (lines : SegSamples)
    (out : (s.engine g).mode = .disabled ∨ (s.engine g).mode = .stuck) : s.restartEngine lines g = s := by
  rcases out with off | stuck
  · simp only [State.restartEngine, off]
  · simp only [State.restartEngine, stuck]

/-- Any other engine aborts and samples its lines (R129, R148). -/
theorem State.restartEngine_of_live {g : Seg} (lines : SegSamples)
    (live : ¬((s.engine g).mode = .disabled ∨ (s.engine g).mode = .stuck)) :
    s.restartEngine lines g = (s.abortEngine g).leaveBusy g (sampledMode (levelOf lines g)) := by
  unfold State.restartEngine
  split
  next off => exact absurd (.inl off) live
  next stuck => exact absurd (.inr stuck) live
  next => rfl

theorem State.engine_restartEngine (s : State) (lines : SegSamples) (g h : Seg) :
    (s.restartEngine lines g).engine h = if g = h then (s.engine g).restarted (levelOf lines g) else s.engine h := by
  by_cases out : (s.engine g).mode = .disabled ∨ (s.engine g).mode = .stuck
  · rw [State.restartEngine_of_out lines out, Engine.restarted, if_pos out]
    split
    next same => rw [same]
    next => rfl
  · have aborted : (s.abortEngine g).engine = s.engine := funext fun h => by simp [State.engine]
    rw [State.restartEngine_of_live lines out, State.engine_leaveBusy, aborted, sampledMode_eq, Engine.restarted, if_neg out]

/-- The engines of a state after every one has restarted (R129). -/
def State.restarted (s : State) (lines : SegSamples) : State :=
  (((s.restartEngine lines 0).restartEngine lines 1).restartEngine lines 2).restartEngine lines 3

/-- The records of a state discarded at WARM_RESTART, segment by segment (R100, R200). -/
def State.emptied (s : State) : State :=
  (((s.discarded 0 0x03#8).discarded 1 0x03#8).discarded 2 0x03#8).discarded 3 0x03#8

/-- The reports of the aborts of every engine, segment by segment (R124, R129). -/
def State.allAborted (s : State) : State := (((s.aborted 0).aborted 1).aborted 2).aborted 3

theorem State.engine_restarted (s : State) (lines : SegSamples) (g : Seg) :
    (s.restarted lines).engine g = (s.engine g).restarted (levelOf lines g) := by
  simp only [State.restarted, State.engine_restartEngine]
  fin_cases g <;> rfl

theorem State.aborted_engine (s : State) (g h : Seg) : (s.aborted g).engine h = s.engine h := by
  rw [← State.abortEngine_eq]
  simp [State.engine]

/-- A restart of other engines leaves an engine to be aborted as it was, so that the logs grow alike. -/
theorem State.logPart_restarted (s : State) (lines : SegSamples) : (s.restarted lines).logPart = s.allAborted.logPart := by
  have one := (s.logPart_restartEngine lines 0)
  have two := (State.logPart_restartEngine _ lines 1).trans (State.logPart_aborted_congr one (g := 1)
    (by simp [State.engine_restartEngine, State.aborted_engine]))
  have three := (State.logPart_restartEngine _ lines 2).trans (State.logPart_aborted_congr two (g := 2)
    (by simp [State.engine_restartEngine, State.aborted_engine]))
  exact (State.logPart_restartEngine _ lines 3).trans (State.logPart_aborted_congr three (g := 3)
    (by simp [State.engine_restartEngine, State.aborted_engine]))

/-- What the restart of the engines leaves alone. -/
@[simp] theorem State.restarted_frame (s : State) (lines : SegSamples) :
    (s.restarted lines).power = s.power ∧ (s.restarted lines).mga = s.mga ∧ (s.restarted lines).active = s.active ∧
    (s.restarted lines).staged = s.staged ∧ (s.restarted lines).generation = s.generation ∧
    (s.restarted lines).dirty = s.dirty ∧ (s.restarted lines).runtime = s.runtime ∧ (s.restarted lines).port = s.port ∧
    (s.restarted lines).context = s.context ∧ (s.restarted lines).answer = s.answer ∧
    (s.restarted lines).sending = s.sending ∧ (s.restarted lines).readPos = s.readPos ∧
    (s.restarted lines).lists = s.lists ∧ (s.restarted lines).openRecord = s.openRecord ∧
    (s.restarted lines).recordRequest = s.recordRequest ∧ (s.restarted lines).holdLimit = s.holdLimit ∧
    (s.restarted lines).idleLimit = s.idleLimit ∧ (s.restarted lines).alertEnable = s.alertEnable ∧
    (s.restarted lines).pending = s.pending := by
  unfold State.restarted
  simp

/-- Without a context a discard changes the lists, the OPEN record, the Pendings and the log alone. -/
theorem State.context_emptied (closed : s.context = none) : s.emptied.context = none := by
  simp [State.emptied, closed]

@[simp] theorem State.emptied_frame (s : State) :
    s.emptied.power = s.power ∧ s.emptied.mga = s.mga ∧ s.emptied.active = s.active ∧ s.emptied.staged = s.staged ∧
    s.emptied.generation = s.generation ∧ s.emptied.dirty = s.dirty ∧ s.emptied.port = s.port ∧
    s.emptied.answer = s.answer ∧ s.emptied.sending = s.sending ∧ s.emptied.readPos = s.readPos ∧
    s.emptied.recordRequest = s.recordRequest ∧ s.emptied.engines = s.engines ∧ s.emptied.holdLimit = s.holdLimit ∧
    s.emptied.idleLimit = s.idleLimit ∧ s.emptied.alertEnable = s.alertEnable ∧ s.emptied.pending = s.pending := by
  unfold State.emptied
  simp

theorem State.list_emptied (s : State) (g : Seg) : s.emptied.list g = [] := by
  simp only [State.emptied, State.list_discarded]
  fin_cases g <;> rfl

theorem State.openRecord_emptied (s : State) : s.emptied.openRecord = none := by
  simp only [State.emptied, State.openRecord_discarded]
  cases s.openRecord with
  | none => rfl
  | some r =>
    obtain ⟨g, hg⟩ : ∃ g, r.segment = g := ⟨_, rfl⟩
    fin_cases g <;> simp [hg]

theorem State.incarnation_emptied (s : State) (i : Slot) :
    (s.emptied.slotRuntime i).incarnation = (s.slotRuntime i).incarnation := by
  simp [State.emptied]

/-- The log of a WARM_RESTART: the aborts' reports, then the discards' (R200). -/
theorem State.logPart_emptied_restarted (s : State) (lines : SegSamples) :
    (s.restarted lines).emptied.logPart = s.allAborted.emptied.logPart := by
  have aborted (u : State) (g : Seg) : (u.aborted g).lists = u.lists ∧ (u.aborted g).openRecord = u.openRecord := by
    rw [← State.abortEngine_eq]
    simp
  have lists : (s.restarted lines).lists = s.allAborted.lists := by simp [State.allAborted, aborted]
  have opened : (s.restarted lines).openRecord = s.allAborted.openRecord := by simp [State.allAborted, aborted]
  have step {u v : State} (g : Seg) (h : u.logPart = v.logPart ∧ u.lists = v.lists ∧ u.openRecord = v.openRecord) :
      (u.discarded g 0x03#8).logPart = (v.discarded g 0x03#8).logPart ∧
        (u.discarded g 0x03#8).lists = (v.discarded g 0x03#8).lists ∧
        (u.discarded g 0x03#8).openRecord = (v.discarded g 0x03#8).openRecord := by
    obtain ⟨log, lists, opened⟩ := h
    refine ⟨State.logPart_discarded_congr log lists opened g _, Vector.ext fun n hn => ?_, by simp [opened]⟩
    have same : u.list = v.list := funext fun h => by simp [State.list, lists]
    change (u.discarded g 0x03#8).list ⟨n, hn⟩ = (v.discarded g 0x03#8).list ⟨n, hn⟩
    simp [same]
  exact (step 3 (step 2 (step 1 (step 0 ⟨s.logPart_restarted lines, lists, opened⟩)))).1

/-- WARM_RESTART in its steps (R200). -/
theorem cmdWarmRestart_eq (closed : s.context = none) (lines : SegSamples) :
    cmdWarmRestart lines s =
      ({ (s.restarted lines).emptied with cache := [], commitMarks := Vector.replicate 4 false }.mapRuntime fun _ rt =>
        { rt with faulted := false, pointer := none, pending := 0 }, replyCode .ok) := by
  have one : (s.restarted lines).context = none := by simp [closed]
  have two : ((s.restarted lines).discarded 0 DiscardCause.warmRestart.value).context = none := by simp [closed]
  have three : (((s.restarted lines).discarded 0 DiscardCause.warmRestart.value).discarded 1
      DiscardCause.warmRestart.value).context = none := by simp [closed]
  have four : ((((s.restarted lines).discarded 0 DiscardCause.warmRestart.value).discarded 1
      DiscardCause.warmRestart.value).discarded 2 DiscardCause.warmRestart.value).context = none := by
    simp [closed]
  have discards : ((((s.restarted lines).bulkDiscard 0 .warmRestart).bulkDiscard 1 .warmRestart).bulkDiscard 2
      .warmRestart).bulkDiscard 3 .warmRestart = (s.restarted lines).emptied := by
    rw [State.bulkDiscard_closed one, State.bulkDiscard_closed two, State.bulkDiscard_closed three,
      State.bulkDiscard_closed four]
    rfl
  rw [← discards]
  rfl

theorem exec_warmRestart (ready : s.Ready) (tag : Byte) (lines : SegSamples) :
    exec (.warmRestart tag lines) s = .next (State.finish tag (cmdWarmRestart lines s)) := ready.execute_eq tag _

/-- The state of a WARM_RESTART once the engines have restarted and the lists are empty (R200). -/
def State.wiped (u : State) : State :=
  { u with cache := [], commitMarks := Vector.replicate 4 false }.mapRuntime fun _ rt =>
    { rt with faulted := false, pointer := none, pending := 0 }

theorem State.slotRuntime_wiped (u : State) (i : Slot) :
    u.wiped.slotRuntime i = { faulted := false, pointer := none, pending := 0, incarnation := (u.slotRuntime i).incarnation } :=
  State.slotRuntime_mapRuntime _ _ i

theorem State.inUse_emptied (s : State) : s.emptied.inUse = 0 := by
  simp [State.inUse_eq, State.sumLists, State.openRecord_emptied, State.list_emptied]

/-- Settles O23: the engines restart, the lists are emptied, and every slot is cleared. -/
theorem warmRestartClears : Obligations.WarmRestartClears := by
  intro tag lines s ready
  have log := s.logPart_emptied_restarted lines
  have engines (g : Seg) : (s.restarted lines).emptied.engine g = (s.engine g).restarted (levelOf lines g) :=
    (State.engine_congr (State.emptied_frame _).2.2.2.2.2.2.2.2.2.2.2.1 g).trans (s.engine_restarted lines g)
  have incarnations (i : Slot) :
      ((s.restarted lines).emptied.slotRuntime i).incarnation = (s.slotRuntime i).incarnation := by
    rw [State.incarnation_emptied]
    simp [State.slotRuntime]
  have executed : exec (.warmRestart tag lines) s = .next ((s.restarted lines).emptied.wiped.answered tag .ok []) := by
    rw [exec_warmRestart ready, cmdWarmRestart_eq ready.2]
    rfl
  have closed := State.context_emptied (s := s.restarted lines) (by simp [ready.2])
  have lists := State.list_emptied (s.restarted lines)
  have inUse := State.inUse_emptied (s.restarted lines)
  have frame := State.emptied_frame (s.restarted lines)
  simp only [State.restarted_frame] at frame
  simp only [State.logPart, LogPart.mk.injEq, State.allAborted] at log
  generalize (s.restarted lines).emptied = w at *
  refine ⟨_, executed, fun g => ⟨lists g, Vector.getElem_replicate _, engines g⟩, fun i => ?_, inUse, rfl, ?_, ?_⟩
  · rw [← incarnations]
    exact State.slotRuntime_wiped w i
  · exact log
  · simp [State.answered, State.wiped, State.mapRuntime, closed, ready.2, frame]

/-! ### COMMIT -/

/-- No record of a slot carries an incarnation (R26). -/
def State.Unused (s : State) (i : Slot) (inc : Byte) : Prop := s.records.any (·.belongs i inc) = false

/-- The search for an incarnation stops at the first one that no record of the slot carries (R26). -/
theorem State.freeIncarnation_spec (s : State) (i : Slot) (fuel : Nat) :
    ∀ (inc : Byte) (k : Nat), k < fuel → s.Unused i (inc + BitVec.ofNat 8 k) →
      ∃ n ≤ k, s.freeIncarnation i fuel inc = inc + BitVec.ofNat 8 n ∧ s.Unused i (inc + BitVec.ofNat 8 n) ∧
        ∀ m < n, s.records.any (·.belongs i (inc + BitVec.ofNat 8 m)) = true := by
  induction fuel with
  | zero => exact fun _ k none_ => absurd none_ (Nat.not_lt_zero k)
  | succ fuel ih =>
    intro inc k inside unused
    by_cases used : s.records.any (·.belongs i inc) = true
    · obtain ⟨j, rfl⟩ : ∃ j, k = j + 1 := by
        refine Nat.exists_eq_succ_of_ne_zero fun zero => ?_
        subst zero
        simp [State.Unused, used] at unused
      have shift (n : Nat) : inc + BitVec.ofNat 8 (n + 1) = inc + 1#8 + BitVec.ofNat 8 n := by
        rw [BitVec.ofNat_add]
        ring
      obtain ⟨n, low, found, free, before⟩ := ih (inc + 1#8) j (by omega) (shift j ▸ unused)
      refine ⟨n + 1, by omega, ?_, shift n ▸ free, fun m below => ?_⟩
      · rw [State.freeIncarnation, if_pos used, found, shift n]
      · rcases m with _ | m
        · simpa using used
        · rw [shift]
          exact before m (by omega)
    · refine ⟨0, Nat.zero_le k, ?_, ?_, fun m below => absurd below (Nat.not_lt_zero m)⟩
      · rw [State.freeIncarnation, if_neg used]
        simp
      · simpa [State.Unused] using used

/-- At most 48 records leave one of 49 incarnations in a row to no record of the slot (R26, R78). -/
theorem State.exists_unused (pool : s.PoolOk) (i : Slot) (inc : Byte) : ∃ k < 49, s.Unused i (inc + BitVec.ofNat 8 k) := by
  by_contra all
  have used (k : Nat) (inside : k < 49) : inc + BitVec.ofNat 8 k ∈ s.records.map (·.incarnation) := by
    have taken : s.records.any (·.belongs i (inc + BitVec.ofNat 8 k)) = true := by
      by_contra free
      exact all ⟨k, inside, Bool.eq_false_of_not_eq_true free⟩
    obtain ⟨r, mem, belongs⟩ := List.any_eq_true.mp taken
    have own : r.slot = i ∧ r.incarnation = inc + BitVec.ofNat 8 k := by simpa [Record.belongs] using belongs
    exact List.mem_map.mpr ⟨r, mem, own.2⟩
  have different : Set.InjOn (fun k : Nat => inc + BitVec.ofNat 8 k) (Finset.range 49) := by
    intro j hj k hk same
    have below : j < 49 ∧ k < 49 := ⟨by simpa using hj, by simpa using hk⟩
    have numbers := congrArg BitVec.toNat (add_left_cancel (show inc + BitVec.ofNat 8 j = inc + BitVec.ofNat 8 k from same))
    simp only [BitVec.toNat_ofNat] at numbers
    omega
  have many : 49 ≤ (s.records.map (·.incarnation)).toFinset.card := by
    rw [← Finset.card_range 49, ← Finset.card_image_of_injOn different]
    refine Finset.card_le_card fun x mem => ?_
    obtain ⟨k, hk, rfl⟩ := Finset.mem_image.mp mem
    exact List.mem_toFinset.mpr (used k (by simpa using hk))
  have few := (List.toFinset_card_le (s.records.map (·.incarnation))).trans_eq (List.length_map _)
  have bound : s.records.length ≤ 48 := pool
  omega

/-- The incarnation that a changed identity gets (R26). -/
theorem State.nextIncarnation_spec (pool : s.PoolOk) (i : Slot) :
    ∃ n ≤ 48, s.nextIncarnation i = (s.slotRuntime i).incarnation + 1#8 + BitVec.ofNat 8 n ∧
      s.Unused i (s.nextIncarnation i) ∧
      ∀ k < n, s.records.any (·.belongs i ((s.slotRuntime i).incarnation + 1#8 + BitVec.ofNat 8 k)) = true := by
  obtain ⟨k, inside, unused⟩ := State.exists_unused pool i ((s.slotRuntime i).incarnation + 1#8)
  obtain ⟨n, low, found, free, before⟩ := s.freeIncarnation_spec i 256 _ k (by omega) unused
  have next : s.nextIncarnation i = (s.slotRuntime i).incarnation + 1#8 + BitVec.ofNat 8 n := found
  exact ⟨n, by omega, next, next ▸ free, before⟩

theorem RouteEntry.sameIdentity_iff (a b : RouteEntry) :
    a.sameIdentity b = true ↔
      a.valid = b.valid ∧ a.vaddr = b.vaddr ∧ a.segment = b.segment ∧ a.paddr = b.paddr ∧ a.width = b.width := by
  simp [RouteEntry.sameIdentity, and_assoc]

theorem validate_eq_none {t : Tables} {mga : Addr} (h : ∀ i : Slot, t.Passes mga i) : validate t mga = none := by
  rw [validate, List.findSome?_eq_none_iff]
  intro i _
  rw [(validateSlot_eq_none_iff t mga i).mpr (h i), Option.map_none]

/-- The state after a COMMIT of a set that passes (R25 to R27, R156). -/
def State.committed (s : State) : State :=
  { s with
    active := s.staged, generation := s.generation + 1#16, dirty := false, cache := [],
    runtime := s.runtime.mapFinIdx fun i r h =>
      if s.active.routes[i].sameIdentity s.staged.routes[i] then r
      else { faulted := false, pointer := none, pending := 0, incarnation := s.nextIncarnation ⟨i, h⟩ },
    commitMarks := s.commitMarks.mapFinIdx fun g m h => m || s.engines[g].mode.isBusy }

theorem cmdCommit_eq (passes : validate s.staged s.mga = none) :
    cmdCommit s.generation s = (s.committed, reply .ok (wordBytes (s.generation + 1#16))) :=
  cmdCommit_valid passes

theorem State.slotRuntime_committed (s : State) (i : Slot) :
    s.committed.slotRuntime i =
      if s.active.routes[i].sameIdentity s.staged.routes[i] then s.slotRuntime i
      else { faulted := false, pointer := none, pending := 0, incarnation := s.nextIncarnation i } :=
  Vector.getElem_mapFinIdx _

theorem State.commitMark_committed (s : State) (g : Seg) :
    s.committed.commitMark g = (s.commitMark g || (s.engine g).mode.isBusy) :=
  Vector.getElem_mapFinIdx _

theorem State.slotRuntime_answered (s : State) (tag : Byte) (c : Code) (payload : List Byte) (i : Slot) :
    (s.answered tag c payload).slotRuntime i = s.slotRuntime i := rfl

/-- Settles O29: the search for an incarnation ends within 48 values while the pool is within its bound. -/
theorem commitActivates : Obligations.CommitActivates := by
  intro tag s ready passes
  have executed : exec (.commit tag s.generation) s =
      .next (s.committed.answered tag .ok [(s.generation + 1#16).extractLsb' 8 8, (s.generation + 1#16).setWidth 8]) := by
    rw [exec_commit ready, cmdCommit_eq (validate_eq_none passes), State.finish_reply, wordBytes, hiByte_eq_extract,
      loByte_eq_setWidth]
  refine ⟨_, executed, fun i => ?_, s.commitMark_committed, rfl⟩
  simp only [State.slotRuntime_answered, s.slotRuntime_committed i]
  split
  next same => rw [if_pos ((RouteEntry.sameIdentity_iff _ _).mpr same)]
  next changed =>
    rw [if_neg (mt (RouteEntry.sameIdentity_iff _ _).mp changed)]
    exact ⟨rfl, rfl, rfl, fun pool => s.nextIncarnation_spec pool i⟩

end Sys2Proof.Machine
end

section
/-! PROOFS. The arbiter, the grant of a record, and the ends of a sub-transaction: P, Sr, the hold limit and the idle limit (R10, R37, R46,
R56 to R59, R76, R77, R82, R85, R86, R110 to R112, R123, R186). -/

namespace Sys2Proof.Machine

variable {s : State}

/-! ### The arbiter and the pool -/

/-- No request is unblocked where every WAITING one for the segment is behind a record (R112). -/
theorem State.unblockedRequest_eq_none {g : Seg}
    (blocked : ∀ c r, s.context = some c → c.request = .waiting r → r.segment = g → s.anyNames g r.paddr = true) :
    s.unblockedRequest g = none := by
  unfold State.unblockedRequest
  split
  next c opened =>
    split
    next r waiting =>
      refine if_neg fun free => ?_
      simp only [Bool.and_eq_true, beq_iff_eq, Bool.not_eq_true'] at free
      exact ne_true_of_eq_false free.2 (blocked c r opened waiting free.1)
    next => rfl
  next => rfl

/-- The head is taken where it is QUEUED (R88, R112). -/
theorem State.headTaken_queued {g : Seg} {h : Record} {rest : List Record} (list : s.list g = h :: rest)
    (queued : h.state = .queued) :
    s.headTaken g =
      (s.setList g ({ h with state := .inFlight, attempts := h.attempts + 1 } :: rest)).setMode g
        (.busy (Transaction.fresh .record 0#16 0#8 false)) := by
  simp only [State.headTaken, list, queued, if_true]

/-- Without a QUEUED head nothing is taken (R112). -/
theorem State.headTaken_eq_self {g : Seg} (none_ : ∀ h ∈ (s.list g).head?, h.state ≠ .queued) : s.headTaken g = s := by
  unfold State.headTaken
  split
  next => rfl
  next h rest list => exact if_neg (none_ h (by simp [list]))

/-- A free record goes to the byte that waits for one (R82). -/
theorem State.grantRecord_eq {b : Byte} {c : Context} (waiting : s.recordRequest = some b) (opened : s.context = some c) :
    s.grantRecord =
      if s.inUse < 48 then
        { s with
          recordRequest := none, openRecord := some (c.recordOf b), answer := .ack,
          cache := if c.route.width = IndexWidth.raw then s.cache else updateLine s.cache (c.key (c.index.getD 0#16)) b,
          context := some { c.counted with hold := none } }.followed c
      else s := by
  simp only [State.grantRecord, waiting, opened]
  split
  next room =>
    rw [State.acceptPosted_eq, openedRecord_eq, if_pos (show s.inUse < 48 from room)]
    rfl
  next full => exact (if_neg (show ¬s.inUse < 48 from full)).symm

theorem State.grantRecord_eq_self (none_ : s.recordRequest = none) : s.grantRecord = s := by
  simp only [State.grantRecord, none_]

/-- Settles O39: the pool's request and the engine's state decide. -/
theorem grantAndArbiter : Obligations.GrantAndArbiter := by
  refine ⟨fun s => ⟨State.grantRecord_eq_self, fun b c waiting opened => State.grantRecord_eq waiting opened⟩,
    fun g s => ⟨State.arbiter_eq_self, ?_, fun idle behind => ?_⟩⟩
  · rintro c r idle opened waiting rfl free
    have unblocked := State.unblockedRequest_waiting opened waiting
    rw [if_neg (ne_true_of_eq_false ((s.anyNames_false_iff _ _).mpr free))] at unblocked
    rw [State.arbiter_eq_taken idle unblocked, Transaction.ofRequest_eq]
    simp [State.onContext, opened]
  · have blocked := State.unblockedRequest_eq_none fun c r opened waiting own =>
      (s.anyNames_iff g r.paddr).mpr (behind c r opened waiting own)
    rw [State.arbiter_eq_headTaken idle blocked]
    exact ⟨fun h rest list queued => State.headTaken_queued list queued, State.headTaken_eq_self⟩

/-! ### P and Sr -/

/-- A P, or an Sr under either name, ends the sub-transaction of a routed port without a hold (R46, R47). -/
theorem exec_ends_routed {c : Context} (lines : SegSamples) (opened : s.context = some c)
    (port : s.port = .upIndex ∨ s.port = .upWrite ∨ s.port = .upRead) (live : s.power ≠ .inReset) (free : c.hold = none) :
    exec (.upstreamStop lines) s = .next { s.endRouted with port := .upIdle, answer := .released, sending := none } ∧
    exec (.upstreamRepeatedStart lines) s =
      .next { s.endRouted with port := .upAddress, answer := .released, sending := none } ∧
    exec (.upstreamStart lines) s = .next { s.endRouted with port := .upAddress, answer := .released, sending := none } := by
  have held : s.scluHeld = false := by simp [State.scluHeld_of_context opened, free]
  obtain ⟨open_, routed⟩ : s.port ≠ .upIdle ∧ s.port ≠ .upMgmtWrite := by
    rcases port with h | h | h <;> simp [h]
  have ended (next : PortState) : s.endSubTransaction lines next =
      { s.endRouted with port := next, answer := .released, sending := none } := by
    simp only [State.endSubTransaction, routed, if_false]
  rw [exec_upstreamStop lines held open_, exec_upstreamRepeatedStart lines held live open_,
    exec_upstreamStart lines held live open_, ended, ended]
  exact ⟨rfl, rfl, rfl⟩

/-- A request that no engine has taken is released by the context's end alone (R46). -/
theorem State.releaseRequest_eq_self {c : Context} (free : c.request ≠ .taken) (owed : Bool) : s.releaseRequest c owed = s := by
  unfold State.releaseRequest
  split
  next taken => exact absurd taken free
  next => rfl

/-- A taken request is detached at its engine (R123). -/
theorem State.releaseRequest_taken {c : Context} (taken : c.request = .taken) (owed : Bool) :
    s.releaseRequest c owed = s.detachEngine c.route.segment owed := by
  simp only [State.releaseRequest, taken]

/-- Without an OPEN record the context and its request go (R37, R46). -/
theorem State.endRouted_closed {c : Context} (opened : s.context = some c) (none_ : s.openRecord = none) :
    s.endRouted =
      { (if s.port = .upIndex ∧ c.indexTaken = 1 then s.setPointer c.slot none else s).releaseRequest c false with
        context := none } := by
  simp only [State.endRouted, opened]
  refine (State.queueOpen.eq_def _).trans ?_
  split
  next => rfl
  next r held =>
    have kept : (State.releaseRequest (if s.port = .upIndex ∧ c.indexTaken = 1 then s.setPointer c.slot none else s) c
        false).openRecord = s.openRecord := by
      split <;> simp
    exact absurd (kept.symm.trans held) (by simp [none_])

/-- Settles O36: the OPEN record is queued before the arbiter looks, and the request goes before the context. -/
theorem subTransactionEnds : Obligations.SubTransactionEnds := by
  constructor
  · intro lines c r s opened port live free absent held ends rt u
    have ends_of {v : State} (h : s.endRouted = v) : ends v :=
      h ▸ exec_ends_routed lines opened (.inr (.inl port)) live free
    have queued : s.endRouted = (u.setList r.segment (s.list r.segment ++ [{ r with state := .queued }])).arbiter r.segment := by
      have write : ¬(s.port = .upIndex ∧ c.indexTaken = 1) := by simp [port]
      simp only [State.endRouted, opened]
      rw [if_neg write, State.releaseRequest_eq_self (by simp [absent])]
      simp only [State.queueOpen, held]
      rfl
    have alone : (u.setList r.segment (s.list r.segment ++ [{ r with state := .queued }])).unblockedRequest r.segment = none :=
      State.unblockedRequest_eq_none fun _ _ opened' => nomatch opened'
    refine ⟨fun other => ends_of (queued.trans ?_), fun idle empty => ends_of (queued.trans ?_)⟩
    · by_cases idle : (s.engine r.segment).mode = .idle
      · obtain ⟨h, first, unqueued⟩ := other.resolve_left (fun busy => busy idle)
        obtain ⟨rest, list⟩ := List.head?_eq_some_iff.mp first
        rw [State.arbiter_eq_headTaken (s := u.setList r.segment _) idle alone]
        refine State.headTaken_eq_self ?_
        rw [State.list_setList_self, list]
        simpa using unqueued
      · exact State.arbiter_eq_self idle
    · have list : (u.setList r.segment (s.list r.segment ++ [{ r with state := .queued }])).list r.segment =
          [{ r with state := .queued }] := by
        rw [State.list_setList_self, empty, List.nil_append]
      rw [State.arbiter_eq_headTaken (s := u.setList r.segment _) idle alone, State.headTaken_queued list rfl]
      simp [State.setList]
  · intro lines c s opened port live free none_ ends u
    have ends_of {v : State} (h : s.endRouted = v) : ends v := by
      obtain ⟨stop, repeated, -⟩ := exec_ends_routed lines opened port live free
      exact h ▸ ⟨stop, repeated⟩
    refine ⟨fun absent => ends_of ?_, fun t r indexed taken carries => ends_of ?_⟩
    · rw [State.endRouted_closed opened none_, State.releaseRequest_eq_self (by simp [absent])]
      split <;> rfl
    · rw [State.endRouted_closed opened none_, if_neg (by simp [indexed]), State.releaseRequest_taken taken,
        State.detachEngine_eq carries]
      rfl

/-! ### The hold limit -/

theorem exec_holdLimitExpires {c : Context} {h : Hold} (opened : s.context = some c) (held : c.hold = some h) :
    exec .holdLimitExpires s =
      .next
        ((if h.point == .passByte && c.request == .taken then s
          else s.append (holdEntry c h.point (s.holdReason c h.point))).releaseRequest c
            (h.point == .passByte && c.request == .taken)).failHold := by
  change execHoldLimitExpires s = _
  simp only [execHoldLimitExpires, opened, held]

/-- The hold reason in force in the words of the claims (R56). -/
theorem State.holdReason_value (s : State) (c : Context) (p : HoldPoint) :
    (s.holdReason c p).value =
      if p = .postByte then 0x03#8
      else if c.request = .taken then 0x04#8
      else if ∃ x ∈ s.records, x.segment = c.route.segment ∧ x.paddr = c.route.paddr then 0x02#8
      else 0x01#8 := by
  simp only [← State.anyNames_iff]
  cases p
  case postByte => rfl
  all_goals
    simp only [State.holdReason]
    split
    next taken =>
      simp only [taken, reduceCtorEq, if_false, if_true]
      rfl
    next free =>
      simp only [reduceCtorEq, if_false]
      split <;> rfl

/-- The entry of an expiry in the words of the claims (R59). -/
theorem holdEntry_eq (c : Context) (p : HoldPoint) (why : HoldReason) :
    holdEntry c p why = c.entry .upHoldExpired why.value p.value := rfl

/-- Settles O37: the entry is made or owed, and the request goes before the port answers. -/
theorem holdExpires : Obligations.HoldExpires := by
  intro c h s opened held g reason point logged
  have entry : s.append (holdEntry c h.point (s.holdReason c h.point)) = logged := by
    rw [holdEntry_eq, State.holdReason_value]
    rfl
  have kept : logged.context = some c := by simp [logged, opened]
  rw [exec_holdLimitExpires opened held, entry]
  refine ⟨fun free => ?_, fun t r taken carries => ?_⟩
  · have unowed : ¬(h.point == .passByte && c.request == .taken) = true := by simp [free]
    rw [if_neg unowed, State.releaseRequest_eq_self free, State.failHold_eq kept held]
  · rw [State.releaseRequest_taken taken]
    by_cases pass : h.point = .passByte
    · have owed : (h.point == .passByte && c.request == .taken) = true := by simp [pass, taken]
      rw [owed, if_pos rfl, if_pos pass, State.detachEngine_eq carries,
        State.failHold_eq (s := s.setMode c.route.segment _) opened held]
    · have unowed : (h.point == .passByte && c.request == .taken) = false := by simp [pass]
      have carries' : logged.CarriesRequest c.route.segment t r := carries.congr (by simp [logged])
      rw [unowed, if_neg Bool.false_ne_true, if_neg pass, State.detachEngine_eq carries',
        State.failHold_eq (s := logged.setMode c.route.segment _) kept held]

/-! ### The idle limit -/

/-- The idle limit outside UP_IDLE, UP_IGNORE and a hold (R76, R77). -/
theorem exec_idleLimitExpires (held : s.scluHeld = false) (open_ : s.port ≠ .upIdle) (live : s.port ≠ .upIgnore) :
    exec .idleLimitExpires s =
      .next ({ s.abandonWork with port := .upIdle, answer := .released, sending := none }.append (abandonEntry s)) :=
  congrArg _ ((if_neg (by simp [held, open_])).trans (if_neg live))

theorem exec_idleLimitExpires_ignored (held : s.scluHeld = false) (port : s.port = .upIgnore) :
    exec .idleLimitExpires s = .next { s with port := .upIdle, answer := .released } :=
  congrArg _ ((if_neg (by simp [held, port])).trans (if_pos port))

/-- The entry of an abandon outside a routed sub-transaction (R77). -/
theorem abandonEntry_closed (closed : s.context = none) :
    abandonEntry s =
      { Entry.blank .upAbandoned with
        detailA := s.port.value, detailB := if s.port = .upMgmtWrite then byteOf s.buffer.length else 0#8 } := by
  simp only [abandonEntry, closed]
  split <;> rfl

theorem abandonEntry_opened {c : Context} (opened : s.context = some c) :
    abandonEntry s = c.entry .upAbandoned s.port.value (BitVec.ofNat 8 c.count) := by
  simp only [abandonEntry, opened]
  rfl

/-- Outside a routed sub-transaction and a management write nothing is open (R77). -/
theorem State.abandonWork_closed (closed : s.context = none) (port : s.port ≠ .upMgmtWrite) : s.abandonWork = s := by
  unfold State.abandonWork
  split
  next opened => exact absurd opened (by simp [closed])
  next => exact if_neg port

/-- A command frame is dropped (R186). -/
theorem State.abandonWork_mgmt (closed : s.context = none) (port : s.port = .upMgmtWrite) :
    s.abandonWork = { s with frame := .noFrame, buffer := [] } := by
  unfold State.abandonWork
  split
  next opened => exact absurd opened (by simp [closed])
  next => exact if_pos port

/-- Settles O38: the port's state and the context decide what is abandoned. -/
theorem idleExpires : Obligations.IdleExpires := by
  constructor
  · intro s closed e u
    have held := State.scluHeld_of_closed closed
    have run (open_ : s.port ≠ .upIdle) (live : s.port ≠ .upIgnore) := exec_idleLimitExpires held open_ live
    rw [abandonEntry_closed closed] at run
    refine ⟨exec_idleLimitExpires_ignored held, fun port => ?_, fun port => ?_, fun port => ?_⟩
    · rw [run (by simp [port]) (by simp [port]), port, State.abandonWork_closed closed (by simp [port])]
      rfl
    · rw [run (by simp [port]) (by simp [port]), port, State.abandonWork_closed closed (by simp [port])]
      rfl
    · rw [run (by simp [port]) (by simp [port]), port, State.abandonWork_mgmt closed port]
      rfl
  · intro c s opened free port state e u
    have held : s.scluHeld = false := by simp [State.scluHeld_of_context opened, free]
    have entry : abandonEntry s = e := by
      rw [abandonEntry_opened opened]
      rcases port with h | h | h <;> simp [e, state, h, PortState.value]
    have work : s.abandonWork =
        { (s.releaseRequest c false).setPointer c.slot none with context := none, openRecord := none } := by
      simp only [State.abandonWork, opened]
    have run := exec_idleLimitExpires held (by rcases port with h | h | h <;> simp [h]) (by rcases port with h | h | h <;> simp [h])
    rw [entry, work] at run
    refine ⟨fun absent => ?_, fun t r taken carries => ?_⟩
    · rw [run, State.releaseRequest_eq_self (by simp [absent])]
      rfl
    · rw [run, State.releaseRequest_taken taken, State.detachEngine_eq carries]
      rfl

end Sys2Proof.Machine
end

section
/-! PROOFS. The segment engines: the start of a transaction, the target's answers, bytes read, and the stop condition (R88 to R95, R111,
R114 to R123, R154 to R159). -/

namespace Sys2Proof.Machine

variable {s : State}

/-! ### The start (R114) -/

/-- The address byte of a request: PA+R for a raw read, else PA+W. -/
theorem addressByte_startDirection (r : Request) :
    addressByte r.paddr r.startDirection = r.paddr ++ (if r.kind = .rawRead then 1#1 else 0#1) := by
  unfold Request.startDirection
  split
  · exact addressByte_read r.paddr
  · exact addressByte_write r.paddr

/-- An engine in ADDRESSING that has sent nothing sends its address byte. -/
theorem exec_downstreamStart {g : Seg} {t : Transaction} {b : Byte} (carries : s.Carries g t) (phase : t.phase = .addressing)
    (released : t.out = .released) (byte : s.startByte g t = some b) :
    exec (.downstreamStart g) s = .next (s.setMode g (.busy { t with out := .byte b })) := by
  have busy : (s.engine g).mode = .busy t := carries
  change execDownstreamStart g s = _
  simp only [execDownstreamStart, busy]
  rw [if_pos ⟨phase, released⟩]
  simp only [byte]
  rfl

/-- Settles O40: the Work gives the address byte. -/
theorem startSendsAddress : Obligations.StartSendsAddress := by
  refine fun g t s carries phase released => ⟨fun r rest work list => ?_, fun r work => ?_⟩
  · refine exec_downstreamStart carries phase released ?_
    simp only [State.startByte, work, list, List.head?_cons, Option.map_some, addressByte_write]
  · refine exec_downstreamStart carries phase released ?_
    rw [← addressByte_startDirection]
    rcases work with work | work <;> simp only [State.startByte, work]

/-! ### The rows of the target's answers (R105) -/

section
variable {g : Seg} {t : Transaction} {ack : Bool} {row : Instr}

/-- The answer to the address byte after S goes by the byte's direction. -/
theorem exec_answer_addressing (answers : s.Answers g t ack row) (phase : t.phase = .addressing) :
    exec row s = .next (if t.opensWithRead then s.answerReadAddress g t ack else s.answerOpening g t ack) := by
  obtain ⟨busy, sent, named⟩ := answers
  rw [phase] at named
  cases named
  change execDownstreamAddressAnswer g ack s = _
  have busy' : (s.engine g).mode = .busy t := busy
  simp only [execDownstreamAddressAnswer, busy']
  rw [if_pos ⟨phase, sent⟩]

theorem exec_answer_restarting (answers : s.Answers g t ack row) (phase : t.phase = .restarting) :
    exec row s = .next (s.answerReadAddress g t ack) := by
  obtain ⟨busy, -, named⟩ := answers
  rw [phase] at named
  cases named
  change execDownstreamAddressAnswer g ack s = _
  have busy' : (s.engine g).mode = .busy t := busy
  simp only [execDownstreamAddressAnswer, busy']
  rw [if_neg (by simp [phase]), if_pos phase]

theorem exec_answer_indexing (answers : s.Answers g t ack row) (phase : t.phase = .indexing) :
    exec row s = .next (s.answerOpening g t ack) := by
  obtain ⟨busy, -, named⟩ := answers
  rw [phase] at named
  cases named
  change execDownstreamIndexAnswer g ack s = _
  have busy' : (s.engine g).mode = .busy t := busy
  simp only [execDownstreamIndexAnswer, busy']
  rw [if_pos phase]

theorem exec_answer_writing (answers : s.Answers g t ack row) (phase : t.phase = .writing) :
    exec row s = .next (s.answerData g t ack) := by
  obtain ⟨busy, -, named⟩ := answers
  rw [phase] at named
  cases named
  change execDownstreamDataAnswer g ack s = _
  have busy' : (s.engine g).mode = .busy t := busy
  simp only [execDownstreamDataAnswer, busy']
  rw [if_pos phase]

/-- The target answers in four phases alone. -/
theorem State.Answers.phase_cases (answers : s.Answers g t ack row) :
    t.phase = .addressing ∨ t.phase = .indexing ∨ t.phase = .writing ∨ t.phase = .restarting := by
  obtain ⟨-, -, named⟩ := answers
  cases phase : t.phase <;> simp [answerRow, phase] at named ⊢

end

/-- Without an address byte of its own direction PA+R, the answer before the data is that to an opening byte. -/
theorem exec_answer_opening {g : Seg} {t : Transaction} {ack : Bool} {row : Instr} (answers : s.Answers g t ack row)
    (phase : t.phase = .addressing ∧ t.opensWithRead = false ∨ t.phase = .indexing) :
    exec row s = .next (s.answerOpening g t ack) := by
  rcases phase with ⟨addressing, write⟩ | indexing
  · rw [exec_answer_addressing answers addressing, if_neg (ne_true_of_eq_false write)]
  · exact exec_answer_indexing answers indexing

/-- After PA+R the answer is that to a read. -/
theorem exec_answer_read {g : Seg} {t : Transaction} {ack : Bool} {row : Instr} (answers : s.Answers g t ack row)
    (phase : t.phase = .restarting ∨ t.phase = .addressing ∧ t.opensWithRead = true) :
    exec row s = .next (s.answerReadAddress g t ack) := by
  rcases phase with restarting | ⟨addressing, read⟩
  · exact exec_answer_restarting answers restarting
  · rw [exec_answer_addressing answers addressing, if_pos read]

/-! ### The answers by the Work (R115 to R118, R123) -/

section
variable {g : Seg} {t : Transaction} {r : Request}

theorem State.answerOpening_record {x : Record} {rest : List Record} (work : t.work = .record) (list : s.list g = x :: rest)
    (ack : Bool) :
    s.answerOpening g t ack =
      s.setBusy g (if ack then t.sendNext x.width x.content (t.stopWith false) else t.stopWith true) := by
  cases t
  cases work
  simp only [State.answerOpening, list]

theorem State.answerOpening_ack (work : t.work = .request r) :
    s.answerOpening g t true = s.setBusy g (t.sendNext r.width r.content (t.restart r.paddr)) := by
  cases t
  cases work
  rfl

theorem State.answerOpening_nack (work : t.work = .request r) : s.answerOpening g t false = s.refuseOpening g t r := by
  cases t
  cases work
  rfl

theorem State.answerOpening_detached (work : t.work = .detached r) (ack : Bool) :
    s.answerOpening g t ack = s.setBusy g (t.stopWith false) := by
  cases t
  cases work
  rfl

theorem State.answerReadAddress_request (work : t.work = .request r) (ack : Bool) :
    s.answerReadAddress g t ack = if ack then (s.setBusy g t.read).reportReadAck else s.setBusy g (t.stopWith true) := by
  cases t
  cases work
  rfl

theorem State.answerReadAddress_detached (work : t.work = .detached r) (ack : Bool) :
    s.answerReadAddress g t ack = s.setBusy g (if ack then t.read else t.stopWith false) := by
  cases t
  cases work
  rfl

theorem State.answerData_record {x : Record} {rest : List Record} (work : t.work = .record) (list : s.list g = x :: rest)
    (ack : Bool) :
    s.answerData g t ack =
      s.setBusy g (if ack then t.sendNext x.width x.content (t.stopWith false) else t.stopWith true) := by
  cases t
  cases work
  simp only [State.answerData, list]

theorem State.answerData_request (work : t.work = .request r) (ack : Bool) :
    s.answerData g t ack =
      if ack then
        ((s.setBusy g { t with phase := .writeWait, unanswered := false, out := .released }).cacheWritten g
          (writeKey r.width r.segment r.paddr t.writeIndex) t.data).ackHeldByte
      else
        ((s.setBusy g { t.stopWith true with unanswered := false }).cacheUnsure
          (writeKey r.width r.segment r.paddr t.writeIndex)).nackHeldByte := by
  cases t
  cases work
  rfl

theorem State.answerData_detached (work : t.work = .detached r) (ack : Bool) :
    s.answerData g t ack =
      (s.setBusy g { t.stopWith (!ack) with unanswered := false, entryOwed := false }).lateOutcome t r ack := by
  cases t
  cases work
  rfl

/-- A write request is refused at once (R116). -/
theorem State.refuseOpening_write (kind : r.kind = .write) :
    s.refuseOpening g t r =
      ((s.setBusy g { t.stopWith true with unanswered := false }).cacheUnsure
        (writeKey r.width r.segment r.paddr t.writeIndex)).nackHeldByte := if_pos kind

/-- A read request is refused when P has been made (R118). -/
theorem State.refuseOpening_read (kind : r.kind ≠ .write) :
    s.refuseOpening g t r = s.setBusy g { t.stopWith true with unanswered := false } := if_neg kind

end

/-! ### Records (R88, R115) -/

/-- The next byte of a transaction, in the words of the claims. -/
theorem Transaction.sendNext_eq (t : Transaction) (w : IndexWidth) (i : Word16) (content : List Byte) (ended : Transaction) :
    t.sendNext w content ended =
      match content[t.position]? with
      | some b =>
        { t with
          phase := if t.position < (w.bytesOf i).length then .indexing else .writing, position := min 255 (t.position + 1),
          out := .byte b }
      | none => ended := by
  rw [IndexWidth.bytesOf_length]
  rfl

/-- Settles O41: in every phase a record's answer is the same. -/
theorem recordBytesAnswered : Obligations.RecordBytesAnswered := by
  intro g t r rest ack row s carries answers phase bytes
  obtain ⟨-, work, list⟩ := carries
  have write : t.opensWithRead = false := by simp [Transaction.opensWithRead, work]
  have answered : exec row s = .next
      (s.setBusy g (if ack then t.sendNext r.width r.content (t.stopWith false) else t.stopWith true)) := by
    rcases answers.phase_cases with h | h | h | h
    · rw [exec_answer_opening answers (.inl ⟨h, write⟩), State.answerOpening_record work list]
    · rw [exec_answer_opening answers (.inr h), State.answerOpening_record work list]
    · rw [exec_answer_writing answers h, State.answerData_record work list]
    · exact absurd h phase
  rw [answered, Record.content_eq, Transaction.sendNext_eq t r.width (r.index.getD 0#16)]
  cases ack <;> rfl

/-! ### Pass-through writes (R66, R116, R117, R159) -/

/-- A write opens with PA+W. -/
theorem Transaction.opensWithRead_request {t : Transaction} {r : Request} (work : t.work = .request r ∨ t.work = .detached r) :
    t.opensWithRead = decide (r.kind = .rawRead) := by
  rcases work with work | work <;> cases kind : r.kind <;>
    simp [Transaction.opensWithRead, work, Request.startDirection, kind]

/-- A byte acknowledged in time is told to the cache (R159). -/
theorem State.cacheWritten_writeKey (s : State) (g : Seg) (r : Request) (i : Word16) (b : Byte) :
    s.cacheWritten g (writeKey r.width r.segment r.paddr i) b =
      { s with
        cache := if r.width = IndexWidth.raw then s.cache
          else if s.commitMark g = true then s.lineDropped r i
          else updateLine s.cache ⟨r.segment, r.paddr, i⟩ b } := by
  cases hw : r.width <;> cases hm : s.commitMark g <;>
    simp [writeKey, IndexWidth.indexed, State.cacheWritten, State.lineDropped, hw, hm, dropKey_eq]

/-- The byte held at PASS_BYTE is acknowledged and counted (R66). -/
theorem State.ackHeldByte_eq {c : Context} {limit : Nat} (opened : s.context = some c) (held : c.hold = some ⟨.passByte, limit⟩) :
    s.ackHeldByte = { s with answer := .ack, context := some { c.counted with hold := none } }.followed c := by
  simp only [State.ackHeldByte, opened, held, if_true, State.countByte_eq]
  rfl

/-- The Pointer follows whatever the engines do. -/
theorem State.followed_setMode (s : State) (c : Context) (g : Seg) (m : EngineMode) :
    (s.setMode g m).followed c = (s.followed c).setMode g m := by
  unfold State.followed
  split <;> rfl

/-- The byte held is refused as the target refused it (R66). -/
theorem State.nackHeldByte_eq {c : Context} (opened : s.context = some c) :
    s.nackHeldByte = { s with answer := .nack, context := some { c with hold := none, refusing := true } } := by
  simp [State.nackHeldByte, State.onContext, opened]

/-- Settles O42: before FirstByte the content is sent on, and the data byte's answer is mirrored. -/
theorem writeRequestAnswered : Obligations.WriteRequestAnswered := by
  intro g t r c limit row s carries kind phase opened held bytes k
  obtain ⟨busy, work⟩ := carries
  have write : t.opensWithRead = false := by rw [Transaction.opensWithRead_request (.inl work), kind]; rfl
  have content : r.content = bytes ++ [r.firstByte] := by rw [Request.content_eq, if_pos kind]
  have opening {ack : Bool} (unsent : t.phase ≠ .writing) (answers : s.Answers g t ack row) :
      exec row s = .next (s.answerOpening g t ack) := by
    rcases answers.phase_cases with h | h | h | h
    · exact exec_answer_opening answers (.inl ⟨h, write⟩)
    · exact exec_answer_opening answers (.inr h)
    · exact absurd h unsent
    · exact absurd h phase
  refine ⟨fun b unsent answers next => ?_, fun sent answers => ?_, fun answers => ?_⟩
  · rw [opening unsent answers, State.answerOpening_ack work, content,
      Transaction.sendNext_eq t r.width (r.index.getD 0#16), next]
    rfl
  · intro told
    rw [exec_answer_writing answers sent, State.answerData_request work, if_pos rfl, State.cacheWritten_writeKey]
    refine congrArg _ ((State.ackHeldByte_eq (c := c) ?_ held).trans ?_)
    · exact opened
    · exact State.followed_setMode { s with answer := _, cache := _, context := _ } c g _
  · have refused : exec row s = .next
        ((s.setBusy g { t.stopWith true with unanswered := false }).cacheUnsure
          (writeKey r.width r.segment r.paddr t.writeIndex)).nackHeldByte := by
      by_cases sent : t.phase = .writing
      · rw [exec_answer_writing answers sent, State.answerData_request work, if_neg Bool.false_ne_true]
      · rw [opening sent answers, State.answerOpening_nack work, State.refuseOpening_write kind]
    rw [refused, State.cacheUnsure_writeKey]
    exact congrArg _ (State.nackHeldByte_eq (c := c) opened)

/-! ### Pass-through reads (R54, R71, R118) -/

/-- The read held at READ_ADDRESS is acknowledged (R54, R71). -/
theorem State.reportReadAck_address {c : Context} {limit : Nat} (opened : s.context = some c)
    (held : c.hold = some ⟨.readAddress, limit⟩) :
    s.reportReadAck =
      { s with
        port := .upRead, answer := .ack,
        context := some
          { c with
            follow := decide (c.route.width ≠ .raw ∧ (s.slotRuntime c.slot).pointer ≠ none),
            hold := some ⟨.readByte, s.holdLimit⟩ } } := by
  have follow : (c.route.width.indexed && (s.slotRuntime c.slot).pointer.isSome) =
      decide (c.route.width ≠ .raw ∧ (s.slotRuntime c.slot).pointer ≠ none) := by
    cases c.route.width <;> cases (s.slotRuntime c.slot).pointer <;> rfl
  simp only [State.reportReadAck, opened, held, if_true, follow]

/-- The hold for a byte goes on (R71). -/
theorem State.reportReadAck_byte {c : Context} {limit : Nat} (opened : s.context = some c)
    (held : c.hold = some ⟨.readByte, limit⟩) : s.reportReadAck = s := by
  simp only [State.reportReadAck, opened, held, reduceCtorEq, if_false]

/-- The content of an indexed read is its index alone; behind it PA+R follows (R118). -/
theorem Transaction.sendNext_read (t : Transaction) {r : Request} (kind : r.kind = .indexedRead) :
    t.sendNext r.width r.content (t.restart r.paddr) =
      match (r.width.bytesOf (r.index.getD 0#16))[t.position]? with
      | some b => { t with phase := .indexing, position := min 255 (t.position + 1), out := .byte b }
      | none => { t with phase := .restarting, out := .byte (r.paddr ++ 1#1) } := by
  have content : r.content = r.width.bytesOf (r.index.getD 0#16) := by
    rw [Request.content_eq, if_neg (by simp [kind]), List.append_nil]
  rw [Transaction.sendNext_eq t r.width (r.index.getD 0#16), content, ← addressByte_read]
  split
  next b next =>
    have inside := (List.getElem?_eq_some_iff.mp next).1
    simp only [inside, if_true]
  next => rfl

/-- Settles O43: the index bytes, then PA+R, and its answer. -/
theorem readRequestAnswered : Obligations.ReadRequestAnswered := by
  intro g t r row s carries phase bytes
  obtain ⟨busy, work⟩ := carries
  have opening {ack : Bool} (kind : r.kind = .indexedRead) (before : t.phase ≠ .restarting) (answers : s.Answers g t ack row) :
      exec row s = .next (s.answerOpening g t ack) := by
    have write : t.opensWithRead = false := by rw [Transaction.opensWithRead_request (.inl work), kind]; rfl
    rcases answers.phase_cases with h | h | h | h
    · exact exec_answer_opening answers (.inl ⟨h, write⟩)
    · exact exec_answer_opening answers (.inr h)
    · exact absurd h phase
    · exact absurd h before
  refine ⟨fun kind before answers => ?_, fun kind before answers => ?_, fun read => ?_⟩
  · rw [opening kind before answers, State.answerOpening_ack work, Transaction.sendNext_read t kind]
    rfl
  · rw [opening kind before answers, State.answerOpening_nack work, State.refuseOpening_read (by simp [kind])]
    rfl
  · intro reading
    have read' : t.phase = .restarting ∨ t.phase = .addressing ∧ t.opensWithRead = true :=
      read.imp_right fun ⟨kind, h⟩ => ⟨h, by rw [Transaction.opensWithRead_request (.inl work), kind]; rfl⟩
    refine ⟨fun answers => ?_, fun c limit answers opened held => ?_, fun c limit answers opened held => ?_⟩
    · rw [exec_answer_read answers read', State.answerReadAddress_request work]
      rfl
    · rw [exec_answer_read answers read', State.answerReadAddress_request work, if_pos rfl]
      exact congrArg _ (State.reportReadAck_address (s := s.setBusy g t.read) opened held)
    · rw [exec_answer_read answers read', State.answerReadAddress_request work, if_pos rfl]
      exact congrArg _ (State.reportReadAck_byte (s := s.setBusy g t.read) opened held)

/-! ### Withdrawn requests (R59, R61, R121, R123, R159) -/

/-- Settles O44: a withdrawn request ends at the first point that the protocol allows. -/
theorem withdrawnRequestAnswered : Obligations.WithdrawnRequestAnswered := by
  intro g t r ack row s carries work answers
  have direction := Transaction.opensWithRead_request (r := r) (.inr work)
  refine ⟨fun phase => ?_, fun phase => ?_, fun phase => ?_⟩
  · have opening : t.phase = .addressing ∧ t.opensWithRead = false ∨ t.phase = .indexing :=
      phase.symm.imp_left fun ⟨h, kind⟩ => ⟨h, by simp [direction, kind]⟩
    rw [exec_answer_opening answers opening, State.answerOpening_detached work]
    rfl
  · have read : t.phase = .restarting ∨ t.phase = .addressing ∧ t.opensWithRead = true :=
      phase.imp_right fun ⟨h, kind⟩ => ⟨h, by simp [direction, kind]⟩
    rw [exec_answer_read answers read, State.answerReadAddress_detached work]
    rfl
  · intro u
    rw [exec_answer_writing answers phase, State.answerData_detached work, State.lateOutcome_eq]
    rfl

/-! ### Bytes read (R119 to R121, R154 to R157) -/

/-- The lines after a byte of an indexed read is offered (R154 to R157). -/
theorem State.offer_eq (s : State) (g : Seg) (i : Slot) (k : Key) (b : Byte) :
    s.offer g i k b =
      { s with
        cache :=
          if s.commitMark g = true ∨ (∃ x ∈ s.records, x.segment = k.segment ∧ x.paddr = k.paddr) then
            s.cache.filter fun l => decide (l.key ≠ k)
          else if ∃ l ∈ s.cache, l.key = k then ⟨k, b⟩ :: s.cache.filter fun l => decide (l.key ≠ k)
          else if cacheableAt s.active s.active.routes[i] k.index = true ∧
            (accessAt s.active s.active.routes[i] k.index).reads = true then ⟨k, b⟩ :: s.cache.take 127
          else s.cache } := by
  simp only [State.offer, Bool.or_eq_true, Bool.and_eq_true, State.anyNames_iff, lookup_isSome_iff, toFront, dropKey_eq]
  split_ifs <;> rfl

/-- The byte of an indexed read is offered to the cache (R154). -/
def State.offered (s : State) (g : Seg) (t : Transaction) (r : Request) (b : Byte) : State :=
  if r.kind = .indexedRead then s.offer g r.slot ⟨r.segment, r.paddr, t.readIndex⟩ b else s

/-- A byte of a request goes to the port (R119). -/
theorem exec_downstreamByteReceived_request {g : Seg} {t : Transaction} {r : Request} (b : Byte) (carries : s.CarriesRequest g t r)
    (phase : t.phase = .reading) :
    exec (.downstreamByteReceived g b) s = .next
      (((s.offered g t r b).setBusy g { t with phase := .ackHold, out := .released }).handByte b) := by
  obtain ⟨busy, work⟩ := carries
  have busy' : (s.engine g).mode = .busy t := busy
  change execDownstreamByteReceived g b s = _
  cases t
  cases work
  simp only [execDownstreamByteReceived, busy']
  exact congrArg _ (if_pos phase)

/-- A byte of a withdrawn request is answered by NACK (R121). -/
theorem exec_downstreamByteReceived_detached {g : Seg} {t : Transaction} {r : Request} (b : Byte) (carries : s.Carries g t)
    (work : t.work = .detached r) (phase : t.phase = .reading) :
    exec (.downstreamByteReceived g b) s = .next
      ((s.offered g t r b).setBusy g { t with phase := .stopping, out := .ninthBit false .reading }) := by
  have busy : (s.engine g).mode = .busy t := carries
  change execDownstreamByteReceived g b s = _
  cases t
  cases work
  simp only [execDownstreamByteReceived, busy]
  exact congrArg _ (if_pos phase)

/-- A byte handed over ends the hold for it (R71, R119). -/
theorem State.handByte_eq {c : Context} {limit : Nat} (b : Byte) (opened : s.context = some c)
    (held : c.hold = some ⟨.readByte, limit⟩) :
    s.handByte b = { s with sending := some b, context := some { c with hold := none } } := by
  simp [State.handByte, State.hold, State.onContext, opened, held]

/-- Settles O45: the byte is offered to the cache before it goes to the port or is refused. -/
theorem byteReceived : Obligations.ByteReceived := by
  intro g t r b s carries phase k route others told
  have offered : s.offered g t r b = { s with cache := told } := by
    unfold State.offered
    by_cases kind : r.kind = .indexedRead
    · rw [if_pos kind, State.offer_eq]
      exact congrArg (fun lines => { s with cache := lines }) (if_neg (not_not.mpr kind)).symm
    · rw [if_neg kind]
      exact congrArg (fun lines => { s with cache := lines }) (if_pos kind).symm
  refine ⟨fun c limit work opened held => ?_, fun work => ?_⟩
  · rw [exec_downstreamByteReceived_request b ⟨carries, work⟩ phase, offered]
    exact congrArg _ (State.handByte_eq (s := { s with cache := told }.setMode g _) b opened held)
  · rw [exec_downstreamByteReceived_detached b carries work phase, offered]
    rfl

end Sys2Proof.Machine
end

section
/-! PROOFS. The ends of the segment engines' work: the stop condition, the retry gap, segment faults, and the recovery procedure (R58,
R82, R89 to R95, R97, R99, R111, R115, R121, R123, R131 to R138, R140 to R143, R147, R159). -/

namespace Sys2Proof.Machine

variable {s : State} {g : Seg} {t : Transaction}

/-! ### The end of an attempt (R89 to R92, R115) -/

/-- When P has been made the outcome is reported, and the engine is IDLE (R115). -/
theorem exec_downstreamStopMade (carries : s.Carries g t) (phase : t.phase = .stopping) :
    exec (.downstreamStopMade g) s = .next (((s.reportStop g t).idled g).grantRecord.arbiter g) := by
  have busy : (s.engine g).mode = .busy t := carries
  change execDownstreamStopMade g s = _
  simp only [execDownstreamStopMade, busy]
  rw [if_pos phase]
  rfl

theorem State.reportStop_record (work : t.work = .record) : s.reportStop g t = s.reportAttempt g t := by
  simp only [State.reportStop, work]

theorem State.reportAttempt_delivered {r : Record} {rest : List Record} (list : s.list g = r :: rest) (delivered : t.refused = false) :
    s.reportAttempt g t =
      if (s.slotRuntime r.slot).incarnation = r.incarnation then
        (s.setList g rest).setRuntime r.slot { s.slotRuntime r.slot with pending := (s.slotRuntime r.slot).pending - 1 }
      else s.setList g rest := by
  simp only [State.reportAttempt, list, delivered, Bool.not_false, if_true, State.recordSuccess, beq_iff_eq]
  rfl

theorem State.reportAttempt_retry {r : Record} {rest : List Record} (list : s.list g = r :: rest) (refused : t.refused = true)
    (address : t.position = 0) (left : r.attempts ≤ r.addrRetries) :
    s.reportAttempt g t = s.setList g ({ r with state := .retryWait } :: rest) := by
  simp only [State.reportAttempt, list, refused, address, left, Bool.not_true, Bool.false_eq_true, if_false, if_true]

theorem State.reportAttempt_addressFailed {r : Record} {rest : List Record} (list : s.list g = r :: rest) (refused : t.refused = true)
    (address : t.position = 0) (exhausted : ¬r.attempts ≤ r.addrRetries) :
    s.reportAttempt g t = (s.setList g rest).afterFailure r .postAddrNack r.index (byteOf r.attempts) false := by
  simp only [State.reportAttempt, list, refused, address, exhausted, Bool.not_true, Bool.false_eq_true, if_false, if_true,
    State.failRecord_eq]

theorem State.reportAttempt_byteFailed {r : Record} {rest : List Record} (list : s.list g = r :: rest) (refused : t.refused = true)
    (sent : t.position ≠ 0) :
    s.reportAttempt g t =
      (s.setList g rest).afterFailure r .postDataNack (r.refusedIndex t.position) (byteOf t.position) false := by
  simp only [State.reportAttempt, list, refused, sent, Bool.not_true, Bool.false_eq_true, if_false, State.failRecord_eq]

/-- The index of a data byte is reached by as many advances (R79). -/
theorem advanceBy_eq_repeat (w : IndexWidth) (autoInc : Bool) (n : Nat) (i : Word16) :
    advanceBy w autoInc n i = Nat.repeat (advance w autoInc) n i := by
  induction n with
  | zero => rfl
  | succ n ih => rw [advanceBy, ih, Nat.repeat]

theorem Record.refusedIndex_eq (r : Record) (position : Nat) :
    r.refusedIndex position =
      if position ≤ (r.width.bytesOf 0#16).length then r.index
      else r.index.map fun i => Nat.repeat (advance r.width r.autoInc) (position - (r.width.bytesOf 0#16).length - 1) i := by
  simp only [Record.refusedIndex, IndexWidth.bytesOf_length, ← advanceBy_eq_repeat]

/-- The head in RETRY_WAIT is QUEUED again (R91). -/
theorem exec_retryGapExpires {r : Record} {rest : List Record} (list : s.list g = r :: rest) (waits : r.state = .retryWait) :
    exec (.retryGapExpires g) s = .next ((s.setList g ({ r with state := .queued } :: rest)).arbiter g) := by
  change execRetryGapExpires g s = _
  simp only [execRetryGapExpires, list]
  rw [if_pos waits]

/-- Settles O46: the refusal, the Position and the attempts left decide. -/
theorem attemptEnds : Obligations.AttemptEnds := by
  refine ⟨?_, fun g r rest s list waits => exec_retryGapExpires list waits⟩
  intro g t r rest s carries phase rt freed
  obtain ⟨busy, work, list⟩ := carries
  rw [exec_downstreamStopMade busy phase, State.reportStop_record work]
  refine ⟨fun delivered => ?_, fun refused address left => ?_, fun refused address exhausted => ?_, fun refused sent => ?_⟩
  · rw [State.reportAttempt_delivered list delivered]
  · rw [State.reportAttempt_retry list refused address left]
  · rw [State.reportAttempt_addressFailed list refused address (not_le.mpr exhausted)]
    rfl
  · rw [State.reportAttempt_byteFailed list refused (by omega), Record.refusedIndex_eq]
    rfl

/-! ### The end of a pass-through transaction (R58, R118, R121, R123) -/

/-- The end of a hold withdraws the request, which is over by then or not. -/
theorem State.holdEnded_dropRequest (s : State) (c : Context) (p : HoldPoint) :
    (s.holdEnded c p).dropRequest = s.holdEnded { c with request := .absent } p := by
  cases p <;> rfl

theorem State.reportStop_request {r : Request} (work : t.work = .request r) :
    s.reportStop g t = (if t.refused && r.kind != .write then s.failHold else s).dropRequest := by
  simp only [State.reportStop, work]

theorem State.reportStop_detached {r : Request} (work : t.work = .detached r) :
    s.reportStop g t = if t.unanswered then s.lateOutcome t r false else s := by
  simp only [State.reportStop, work]

theorem State.dropRequest_eq {c : Context} (opened : s.context = some c) :
    s.dropRequest = { s with context := some { c with request := .absent } } := by
  simp [State.dropRequest, State.onContext, opened]

/-- Settles O47: a refused read ends its hold, and a withdrawn write its report. -/
theorem requestEndsAtStop : Obligations.RequestEndsAtStop := by
  intro g t s carries phase
  rw [exec_downstreamStopMade carries phase]
  refine ⟨fun r c work opened => ⟨fun h refused read held => ?_, fun other => ?_⟩, fun r work => ⟨fun answered => ?_, ?_⟩⟩
  · rw [State.reportStop_request work, if_pos (by simp [refused, read]), State.failHold_eq opened held, State.holdEnded_dropRequest]
  · have same : (if t.refused && r.kind != .write then s.failHold else s) = s := by
      split
      next ended =>
        obtain ⟨refused, read⟩ : t.refused = true ∧ r.kind ≠ .write := by simpa using ended
        refine State.failHold_eq_self fun c' opened' => ?_
        cases opened.symm.trans opened'
        exact (other.resolve_left (by simp [refused])).resolve_left read
      next => rfl
    rw [State.reportStop_request work, same, State.dropRequest_eq opened]
  · rw [State.reportStop_detached work, if_neg (by simp [answered])]
  · intro unanswered u v
    rw [State.reportStop_detached work, if_pos unanswered, State.lateOutcome_eq]
    rfl

/-! ### Segment faults (R131 to R138) -/

theorem exec_segTimeout {ninth : Bool} (carries : s.Carries g t) (timed : t.phase ≠ .writeWait ∧ t.phase ≠ .ackHold) :
    exec (.segTimeout g ninth) s = .next ((s.reportFault g t .segTimeout (timeoutPhase t ninth)).recovering g).grantRecord := by
  have busy : (s.engine g).mode = .busy t := carries
  change execSegTimeout g ninth s = _
  simp only [execSegTimeout, busy]
  rw [if_pos (by simpa [Transaction.timed] using timed)]
  rfl

/-- A 1 is sent in the stop condition, in Sr, and in every byte but 00h (R132). -/
theorem Transaction.sendsOne_of
    (h : t.phase = .stopping ∨ (t.phase = .restarting ∧ ∃ b, t.out = .byte b) ∨
      (t.phase = .addressing ∨ t.phase = .indexing ∨ t.phase = .writing) ∧ ∃ b, t.out = .byte b ∧ b ≠ 0#8) :
    t.sendsOne = true := by
  rcases h with phase | ⟨phase, b, out⟩ | ⟨phase, b, out, one⟩
  · simp [Transaction.sendsOne, phase]
  · simp [Transaction.sendsOne, phase, out]
  · rcases phase with phase | phase | phase <;> simp [Transaction.sendsOne, phase, out, one]

theorem exec_segConflict (carries : s.Carries g t) (one : t.sendsOne = true) :
    exec (.segConflict g) s = .next ((s.reportFault g t .segConflict t.phase).recovering g).grantRecord := by
  have busy : (s.engine g).mode = .busy t := carries
  change execSegConflict g s = _
  simp only [execSegConflict, busy]
  rw [if_pos one]
  rfl

/-- A fault fails the record delivered (R134). -/
theorem State.reportFault_record {r : Record} {rest : List Record} (work : t.work = .record) (list : s.list g = r :: rest)
    (kind : Kind) (during : Phase) :
    s.reportFault g t kind during = (s.setList g rest).afterFailure r kind r.index (byteOf t.position) true := by
  simp only [State.reportFault, work, list, State.failRecord_eq]

/-- Settles O48: both faults fail the record. -/
theorem recordFaults : Obligations.RecordFaults := by
  intro g t r rest ninth s carries failed
  obtain ⟨busy, work, list⟩ := carries
  refine ⟨fun unwaiting unheld => ?_, fun sends => ?_⟩
  · rw [exec_segTimeout busy ⟨unwaiting, unheld⟩, State.reportFault_record work list]
    rfl
  · rw [exec_segConflict busy (Transaction.sendsOne_of (sends.imp_right .inr)), State.reportFault_record work list]
    rfl

/-- The entry of a fault outside the ninth bit of a byte read, in the words of the claims (R138). -/
theorem faultEntry_eq (kind : Kind) (t : Transaction) (r : Request) :
    faultEntry kind t r t.phase =
      r.entry kind (some (if r.kind = .write then t.writeIndex else t.readIndex)) (BitVec.ofNat 8 t.position) t.phase.value
        true := by
  have index : faultIndex t r t.phase = if r.kind = .write then t.writeIndex else t.readIndex := by
    unfold faultIndex
    split
    next => rfl
    next => exact if_neg fun ⟨reading, held⟩ => by simp [reading] at held
  unfold faultEntry
  rw [index]
  cases hw : r.width <;> simp [IndexWidth.indexed, Request.entry, Entry.ofRequest, Entry.blank, logIndex, hw, byteOf]

/-- A fault is noted in the transaction's own phase outside a ninth bit (R131). -/
theorem timeoutPhase_false (t : Transaction) : timeoutPhase t false = t.phase := by
  unfold timeoutPhase
  split <;> rfl

/-- The lines that a fault leaves: an unanswered write byte loses its own (R159). -/
def State.faultLines (s : State) (t : Transaction) (r : Request) : List Line :=
  if t.unanswered then s.lineDropped r t.writeIndex else s.cache

/-- A fault of the port's own request: its entry, its line, and the hold that ends (R135 to R138, R159). -/
theorem State.reportFault_request {r : Request} (work : t.work = .request r) (kind : Kind) :
    s.reportFault g t kind t.phase =
      ({ s.append (faultEntry kind t r t.phase) with cache := s.faultLines t r }).failHold.dropRequest := by
  have told : (if t.unanswered then
        (s.append (faultEntry kind t r t.phase)).cacheUnsure (writeKey r.width r.segment r.paddr t.writeIndex)
      else s.append (faultEntry kind t r t.phase)) =
      { s.append (faultEntry kind t r t.phase) with cache := s.faultLines t r } := by
    have cache : (s.append (faultEntry kind t r t.phase)).cache = s.cache := by simp
    unfold State.faultLines
    split
    · rw [State.cacheUnsure_writeKey, State.lineDropped, cache]
      rfl
    · rw [← cache]
  simp only [State.reportFault, work]
  exact congrArg (fun u : State => u.failHold.dropRequest) told

/-- A fault of a withdrawn request: its entry, and the outcome of a byte not answered (R137, R138). -/
theorem State.reportFault_detached {r : Request} (work : t.work = .detached r) (kind : Kind) :
    s.reportFault g t kind t.phase =
      if t.unanswered = true ∧ t.entryOwed = true then
        { s.append (faultEntry kind t r t.phase) with cache := s.faultLines t r }.append
          (r.entry .upHoldExpired (some t.writeIndex) 0x04#8 0x01#8 false)
      else { s.append (faultEntry kind t r t.phase) with cache := s.faultLines t r } := by
  have cache : (s.append (faultEntry kind t r t.phase)).cache = s.cache := by simp
  have line : (s.append (faultEntry kind t r t.phase)).lineDropped r t.writeIndex = s.lineDropped r t.writeIndex := by
    simp only [State.lineDropped, cache]
  simp only [State.reportFault, work, State.lateOutcome_eq, line, State.faultLines]
  have same : ({ s.append (faultEntry kind t r t.phase) with cache := s.cache } : State) =
      s.append (faultEntry kind t r t.phase) := by rw [← cache]
  cases t.unanswered <;> cases t.entryOwed
  exacts [same.symm, same.symm, rfl, rfl]

/-- A fault of either kind outside a ninth bit (R131, R132). -/
theorem exec_fault {kind : Kind} (carries : s.Carries g t) :
    (kind = .segTimeout → t.phase ≠ .writeWait → t.phase ≠ .ackHold →
      exec (.segTimeout g false) s = .next ((s.reportFault g t kind t.phase).recovering g).grantRecord) ∧
    (kind = .segConflict →
      t.phase = .stopping ∨ (t.phase = .restarting ∧ ∃ b, t.out = .byte b) ∨
        (t.phase = .addressing ∨ t.phase = .indexing ∨ t.phase = .writing) ∧ (∃ b, t.out = .byte b ∧ b ≠ 0#8) →
      exec (.segConflict g) s = .next ((s.reportFault g t kind t.phase).recovering g).grantRecord) := by
  constructor
  · rintro rfl unwaiting unheld
    rw [exec_segTimeout carries ⟨unwaiting, unheld⟩, timeoutPhase_false]
  · rintro rfl sends
    exact exec_segConflict carries (Transaction.sendsOne_of sends)

/-- Settles O49: the report of the fault is the same for both kinds. -/
theorem requestFaults : Obligations.RequestFaults := by
  intro g t s carries faults entry dropped
  have faults_of {kind : Kind} {u : State} (h : s.reportFault g t kind t.phase = u) : faults kind u :=
    h ▸ exec_fault carries
  refine ⟨fun r c kind work opened => ?_, ?_⟩
  · have opened' : ({ s.append (faultEntry kind t r t.phase) with cache := s.faultLines t r } : State).context = some c := by
      simp [opened]
    refine ⟨fun h held => faults_of ?_, fun free => faults_of ?_⟩
    · rw [State.reportFault_request work, State.failHold_eq opened' held, State.holdEnded_dropRequest, faultEntry_eq]
      rfl
    · have unheld : ∀ c', ({ s.append (faultEntry kind t r t.phase) with cache := s.faultLines t r } : State).context = some c' →
          c'.hold = none := fun c' h => by cases opened'.symm.trans h; exact free
      rw [State.reportFault_request work, State.failHold_eq_self unheld, State.dropRequest_eq opened', faultEntry_eq]
      rfl
  · intro r kind work u
    refine faults_of ?_
    rw [State.reportFault_detached work, faultEntry_eq]
    rfl

/-! ### The recovery procedure (R140 to R143, R147) -/

/-- Below nine pulses a further one is given (R140). -/
theorem State.pulseOrFail_few {p : Procedure} (few : p.pulses < 9) (g : Seg) :
    s.pulseOrFail g p = s.setProcedure g { p with step := .pulse } := if_pos few

/-- After nine pulses the procedure fails (R140, R141). -/
theorem State.pulseOrFail_nine {p : Procedure} (nine : 9 ≤ p.pulses) (g : Seg) :
    s.pulseOrFail g p = s.becomeStuck g p .sdaLow := if_neg (not_lt.mpr nine)

section
variable {p : Procedure}

theorem exec_recoveryPulse_low (mode : (s.engine g).mode = .recovery p) (step : p.step = .pulse) :
    exec (.recoveryPulse g false) s = .next (s.pulseOrFail g { p with pulses := p.pulses + 1 }) := by
  change execRecoveryPulse g false s = _
  simp only [execRecoveryPulse, mode]
  rw [if_pos step]
  rfl

theorem exec_recoveryStopCondition_low (mode : (s.engine g).mode = .recovery p) (step : p.step = .stop) :
    exec (.recoveryStopCondition g false) s = .next (s.pulseOrFail g p) := by
  change execRecoveryStopCondition g false s = _
  simp only [execRecoveryStopCondition, mode]
  rw [if_pos step]
  rfl

theorem exec_recoverySclLow (mode : (s.engine g).mode = .recovery p) :
    exec (.recoverySclLow g) s = .next (s.becomeStuck g p .sclLow) := by
  change execRecoverySclLow g s = _
  simp only [execRecoverySclLow, mode]

end

/-- Settles O50: SDA high leads to the stop condition, and low to a further pulse below nine. -/
theorem recoveryProceeds : Obligations.RecoveryProceeds := by
  intro g p s mode next
  refine ⟨fun step => ⟨?_, ?_⟩, fun step => ⟨?_, fun few => ?_⟩, fun step => ⟨?_, fun few => ?_⟩⟩
  · change execRecoveryOpeningSample g true s = _
    simp only [execRecoveryOpeningSample, mode]
    rw [if_pos step]
    rfl
  · change execRecoveryOpeningSample g false s = _
    simp only [execRecoveryOpeningSample, mode]
    rw [if_pos step]
    rfl
  · change execRecoveryPulse g true s = _
    simp only [execRecoveryPulse, mode]
    rw [if_pos step]
    rfl
  · rw [exec_recoveryPulse_low mode step, State.pulseOrFail_few (p := { p with pulses := p.pulses + 1 }) few, ← step]
    rfl
  · change execRecoveryStopCondition g true s = _
    simp only [execRecoveryStopCondition, mode]
    rw [if_pos step]
    rfl
  · rw [exec_recoveryStopCondition_low mode step, State.pulseOrFail_few few]
    rfl

/-- The state once the failure of a procedure is logged and told to the management unit (R142, R147). -/
def State.stuckWith (s : State) (g : Seg) (p : Procedure) (cause : StuckCause) (work : Option (Context × Bool)) : State :=
  ((s.setMode g .stuck).append (stuckEntry g cause p.pulses work)).completed g p .failed

/-- The failure of a procedure, in its steps (R142, R143). -/
theorem State.becomeStuck_eq (s : State) (g : Seg) (p : Procedure) (cause : StuckCause) :
    s.becomeStuck g p cause =
      ((if (s.workWaitingOn g).isSome then (s.stuckWith g p cause (s.workWaitingOn g)).failHold
        else s.stuckWith g p cause (s.workWaitingOn g)).discarded g 0x02#8).grantRecord := by
  rw [State.becomeStuck, State.bulkDiscard_eq]
  rfl

/-- A procedure fails by SCL low, or by SDA low after the ninth pulse (R140, R141). -/
theorem exec_recoveryFails {p : Procedure} {pulses : Nat} (mode : (s.engine g).mode = .recovery p) {u : Byte → State}
    (stuck : ∀ (p' : Procedure) (cause : StuckCause), p'.pulses = pulses → p'.byCommand = p.byCommand →
      s.becomeStuck g p' cause = u cause.value) :
    (pulses = p.pulses → exec (.recoverySclLow g) s = .next (u 0x01#8)) ∧
    (pulses = p.pulses + 1 → 9 ≤ pulses → p.step = .pulse → exec (.recoveryPulse g false) s = .next (u 0x02#8)) ∧
    (pulses = p.pulses → 9 ≤ pulses → p.step = .stop → exec (.recoveryStopCondition g false) s = .next (u 0x02#8)) := by
  refine ⟨?_, ?_, ?_⟩
  · rintro rfl
    rw [exec_recoverySclLow mode, stuck p .sclLow rfl rfl]
    rfl
  · rintro rfl nine step
    rw [exec_recoveryPulse_low mode step, State.pulseOrFail_nine nine, stuck { p with pulses := p.pulses + 1 } .sdaLow rfl rfl]
    rfl
  · rintro rfl nine step
    rw [exec_recoveryStopCondition_low mode step, State.pulseOrFail_nine nine, stuck p .sdaLow rfl rfl]
    rfl

/-- A WAITING request on the segment is ended by its failure (R143). -/
theorem State.workWaitingOn_waiting {c : Context} {r : Request} (opened : s.context = some c) (own : c.route.segment = g)
    (waiting : c.request = .waiting r) : s.workWaitingOn g = some (c, true) := by
  simp only [State.workWaitingOn, opened, own, waiting, if_true]

/-- A write that waits for a record is ended too (R143). -/
theorem State.workWaitingOn_postByte {c : Context} {limit : Nat} (opened : s.context = some c) (own : c.route.segment = g)
    (absent : c.request = .absent) (held : c.hold = some ⟨.postByte, limit⟩) : s.workWaitingOn g = some (c, false) := by
  simp only [State.workWaitingOn, opened, own, absent, held, if_true]

/-- No other work waits on a segment (R143). -/
theorem State.workWaitingOn_none
    (none_ : ∀ c, s.context = some c → c.route.segment = g →
      (∀ r, c.request ≠ .waiting r) ∧ ∀ h, c.hold = some h → h.point ≠ .postByte) : s.workWaitingOn g = none := by
  unfold State.workWaitingOn
  split
  next => rfl
  next c opened =>
    split
    next own =>
      obtain ⟨unasked, unposted⟩ := none_ c opened own
      split
      next r waiting => exact absurd waiting (unasked r)
      next =>
        split
        next h held => exact if_neg (unposted h held)
        next => rfl
    next => rfl

theorem State.context_stuckWith (s : State) (g : Seg) (p : Procedure) (cause : StuckCause) (w : Option (Context × Bool)) :
    (s.stuckWith g p cause w).context = s.context := by
  unfold State.stuckWith State.completed
  split <;> simp

/-- The failure in the words of the claims: it depends on the procedure's pulses and its mark alone (R142, R147). -/
theorem State.stuckWith_eq {p p' : Procedure} {pulses : Nat} (given : p'.pulses = pulses) (mark : p'.byCommand = p.byCommand)
    (s : State) (g : Seg) (cause : StuckCause) (w : Option (Context × Bool)) :
    s.stuckWith g p' cause w =
      ((s.setMode g .stuck).append
        { seqNumber := 0#16, kind := .segStuck, segment := some g, slot := w.map fun x => (x.1.slot, x.1.incarnation),
          paddr := w.map fun x => x.1.route.paddr, index := .absent, detailA := cause.value, detailB := BitVec.ofNat 8 pulses,
          pass := (w.map (·.2)).getD false, record := false, superseded := false }).completed g p .failed := by
  subst given
  simp only [State.stuckWith, State.completed, mark]
  rfl

/-- Settles O51: the work that waits on the segment decides the entry and the answer. -/
theorem recoveryFails : Obligations.RecoveryFails := by
  intro g p s mode fails stuck
  have fails_of {pulses : Nat} {u : Byte → State}
      (h : ∀ (p' : Procedure) (cause : StuckCause), p'.pulses = pulses → p'.byCommand = p.byCommand →
        s.becomeStuck g p' cause = u cause.value) : fails pulses u := exec_recoveryFails mode h
  have kept {p' : Procedure} {cause : StuckCause} {w : Option (Context × Bool)} {c : Context} (opened : s.context = some c) :
      (s.stuckWith g p' cause w).context = some c := (State.context_stuckWith _ _ _ _ _).trans opened
  clear_value fails
  refine ⟨fun c h r pulses opened own held waiting => ?_, fun c limit pulses opened own held absent => ?_, fun pulses none_ => ?_⟩
  · refine fails_of fun p' cause given mark => ?_
    rw [State.becomeStuck_eq, State.workWaitingOn_waiting opened own waiting, Option.isSome_some, if_pos rfl,
      State.failHold_eq (kept opened) held, State.stuckWith_eq given mark]
    rfl
  · refine fails_of fun p' cause given mark => ?_
    rw [State.becomeStuck_eq, State.workWaitingOn_postByte opened own absent held, Option.isSome_some, if_pos rfl,
      State.failHold_eq (kept opened) held, State.stuckWith_eq given mark]
    rfl
  · refine fails_of fun p' cause given mark => ?_
    rw [State.becomeStuck_eq, State.workWaitingOn_none none_, Option.isSome_none, if_neg Bool.false_ne_true,
      State.stuckWith_eq given mark]
    rfl

end Sys2Proof.Machine
end

section
/-! PROOFS. The invariants at a reset, and what every step keeps of a reset and of the tables (R1, R2, R16, R18, R24, R45, R49, R78, R102,
R149, R151, R166, R181, R182, R203). -/

namespace Sys2Proof.Machine

variable {s t : State}

/-! ### The invariants at a reset -/

theorem RouteEntry.cleared_ok : RouteEntry.cleared.Ok := by simp [RouteEntry.Ok, RouteEntry.cleared, reservedAddr]

theorem Tables.cleared_route (i : Slot) : Tables.cleared.routes[i] = RouteEntry.cleared := Vector.getElem_replicate _

theorem Tables.cleared_window (j : Win) : Tables.cleared.windows[j] = WindowEntry.cleared := Vector.getElem_replicate _

theorem Tables.cleared_ok : Tables.cleared.Ok :=
  ⟨fun i => (Tables.cleared_route i).symm ▸ RouteEntry.cleared_ok, fun j => by rw [Tables.cleared_window]; rfl⟩

theorem State.engine_cleared (s : State) (g : Seg) : s.cleared.engine g = Engine.reset := Vector.getElem_replicate _

theorem State.list_cleared (s : State) (g : Seg) : s.cleared.list g = [] := Vector.getElem_replicate _

theorem State.slotRuntime_cleared (s : State) (i : Slot) : s.cleared.slotRuntime i = Runtime.reset := Vector.getElem_replicate _

theorem State.commitMark_cleared (s : State) (g : Seg) : s.cleared.commitMark g = false := Vector.getElem_replicate _

theorem State.records_eq (s : State) :
    s.records = s.list 0 ++ s.list 1 ++ s.list 2 ++ s.list 3 ++ s.openRecord.toList := by
  simp [State.records, State.lists_toList]

theorem State.records_cleared (s : State) : s.cleared.records = [] := by
  simp only [State.records_eq, State.list_cleared]
  rfl

theorem State.mode_cleared (s : State) (g : Seg) : (s.cleared.engine g).mode = .disabled := by
  rw [State.engine_cleared]
  rfl

/-- The MGA is one of the four that the straps give (R181). -/
def State.MgaOk (s : State) : Prop := 0x70 ≤ s.mga.toNat ∧ s.mga.toNat ≤ 0x73

/-- Tables without a valid route, with the MGA in range (R2, R24). -/
theorem State.tablesOk_cleared (mga : s.MgaOk) : s.cleared.TablesOk := by
  have invalid (i : Slot) : ¬s.cleared.active.routes[i].valid = true := by
    change ¬Tables.cleared.routes[i].valid = true
    rw [Tables.cleared_route]
    decide
  exact ⟨Tables.cleared_ok, Tables.cleared_ok, mga.1, mga.2, fun i valid => absurd valid (invalid i),
    fun i _ _ valid => absurd valid (invalid i), fun i valid => absurd valid (invalid i)⟩

/-- Every item at its reset value has every invariant. -/
theorem State.ok_cleared (mga : s.MgaOk) : s.cleared.Ok := by
  have mode := s.mode_cleared
  have list := s.list_cleared
  have records := s.records_cleared
  have limits : s.cleared.LimitsOk := show State.reset.LimitsOk by unfold State.LimitsOk; decide
  have frame : s.cleared.FrameOk := show State.reset.FrameOk by unfold State.FrameOk; decide
  have queue : s.cleared.QueueOk :=
    ⟨fun r held => (nomatch held), fun g => by simp [mode, list, EngineMode.deliversRecord]⟩
  have request : s.cleared.RequestOk := fun g => by
    rw [mode]
    exact iff_of_false nofun fun ⟨c, opened, _⟩ => nomatch opened
  have pending : s.cleared.PendingOk := fun i => by
    simp [State.slotRuntime_cleared, Runtime.reset, State.listed_eq, State.sumLists, list]
  have pointer : s.cleared.PointerOk :=
    ⟨fun i p known => by simp [State.slotRuntime_cleared, Runtime.reset] at known, fun c opened => nomatch opened⟩
  have marks : s.cleared.MarksOk := fun g marked => by simp [State.commitMark_cleared] at marked
  have routes : s.cleared.RoutesOk := fun g r carried => by simp [mode, EngineMode.request] at carried
  have named : s.cleared.RecordsOk := fun r held => by simp [records] at held
  have engines : s.cleared.EnginesOk := fun g => by simp [mode]
  have pool : s.cleared.PoolOk := by simp [State.PoolOk, State.inUse, records]
  exact ⟨⟨fun _ => rfl, nofun⟩, ⟨Nat.zero_le _, Nat.zero_le _, fun _ => rfl, fun k => k.elim0⟩, ⟨Nat.zero_le _, List.nodup_nil⟩,
    pool, limits, frame, s.tablesOk_cleared mga,
    ⟨fun h => absurd rfl h, rfl, rfl, nofun, nofun, nofun⟩, queue, request, pending,
    pointer, marks, fun l line => (nomatch line), routes, named, engines, fun c opened => nomatch opened⟩

/-- Settles O4: the reset value is a state cleared with the MGA at 70h. -/
theorem invariantsAtReset : Obligations.InvariantsAtReset :=
  State.ok_cleared (s := State.reset) ⟨le_refl (0x70 : Nat), show (0x70 : Nat) ≤ 0x73 by decide⟩

/-! ### The part before it runs -/

/-- Before it runs the part has no work: no context, every engine DISABLED, no record, and the port outside every transaction. -/
structure State.Dormant (s : State) : Prop where
  power : s.power ≠ .running
  closed : s.context = none
  port : s.port = .upIdle ∨ s.port = .upAddress ∨ s.port = .upIgnore
  sending : s.sending = none
  off : ∀ g, (s.engine g).mode = .disabled
  empty : ∀ g, s.list g = []

/-- The port and the log alone have moved (R49, R182). -/
structure State.Stirs (s t : State) : Prop where
  port : t.port = .upIdle ∨ t.port = .upAddress ∨ t.port = .upIgnore
  same : t = { s with port := t.port, answer := t.answer, log := t.log, nextSeq := t.nextSeq, lost := t.lost }
  still : s.power = .inReset → s.port = .upIdle → t = s

theorem State.Dormant.stirs (d : s.Dormant) : s.Stirs s := ⟨d.port, rfl, fun _ _ => rfl⟩

/-- A management row does nothing before the part runs (R187, R203). -/
theorem State.execute_dormant (d : s.Dormant) (tag : Byte) (f : State → State × Reply) : s.execute tag f = .next s := by
  have blocked : ¬s.canExecute = true := fun ready => d.power ((s.canExecute_iff.mp ready).1)
  exact congrArg _ (if_neg blocked)

/-- A DISABLED engine without records answers no event of its segment (R102). -/
theorem exec_busEvent_off {c : Instr} {g : Seg} (own : busSegment c = some g) (off : (s.engine g).mode = .disabled)
    (empty : s.list g = []) : exec c s = .next s := by
  cases c
  case downstreamStart => cases own; change execDownstreamStart g s = _; simp only [execDownstreamStart, off]
  case downstreamAddressAnswer ack =>
    cases own; change execDownstreamAddressAnswer g ack s = _; simp only [execDownstreamAddressAnswer, off]
  case downstreamIndexAnswer ack =>
    cases own; change execDownstreamIndexAnswer g ack s = _; simp only [execDownstreamIndexAnswer, off]
  case downstreamDataAnswer ack =>
    cases own; change execDownstreamDataAnswer g ack s = _; simp only [execDownstreamDataAnswer, off]
  case downstreamByteReceived b =>
    cases own; change execDownstreamByteReceived g b s = _; simp only [execDownstreamByteReceived, off]
  case downstreamStopMade => cases own; change execDownstreamStopMade g s = _; simp only [execDownstreamStopMade, off]
  case retryGapExpires => cases own; change execRetryGapExpires g s = _; simp only [execRetryGapExpires, empty]
  case segTimeout ninth => cases own; change execSegTimeout g ninth s = _; simp only [execSegTimeout, off]
  case segConflict => cases own; change execSegConflict g s = _; simp only [execSegConflict, off]
  case recoveryOpeningSample sda =>
    cases own; change execRecoveryOpeningSample g sda s = _; simp only [execRecoveryOpeningSample, off]
  case recoveryPulse sda => cases own; change execRecoveryPulse g sda s = _; simp only [execRecoveryPulse, off]
  case recoveryStopCondition sda =>
    cases own; change execRecoveryStopCondition g sda s = _; simp only [execRecoveryStopCondition, off]
  case recoverySclLow => cases own; change execRecoverySclLow g s = _; simp only [execRecoverySclLow, off]
  all_goals cases own

/-- Nothing is being sent before the part runs. -/
theorem State.Dormant.sending_none (d : s.Dormant) (p : PortState) (a : UpAnswer) :
    ({ s with port := p, answer := a, sending := none } : State) = { s with port := p, answer := a } := by
  rw [← d.sending]

/-- The end of a sub-transaction moves the port alone (R46). -/
theorem State.Dormant.endSubTransaction (d : s.Dormant) (lines : SegSamples) (next : PortState) :
    s.endSubTransaction lines next = { s with port := next, answer := .released } := by
  have idle : s.port ≠ .upMgmtWrite := by rcases d.port with h | h | h <;> simp [h]
  rw [State.endSubTransaction_closed lines next idle d.closed, d.sending_none]

/-- A START moves the port alone, and nothing in a reset (R45, R47). -/
theorem State.Dormant.startCondition (d : s.Dormant) (lines : SegSamples) : s.Stirs (s.startCondition lines) := by
  unfold State.startCondition
  split
  next => exact d.stirs
  next live =>
    have moved : s.Stirs { s with port := .upAddress, answer := .released } :=
      ⟨.inr (.inl rfl), rfl, fun held => absurd (.inr held) live⟩
    split
    next => exact moved
    next => rw [d.endSubTransaction]; exact moved

/-- What a command does before the part runs: a reset, its end, or a movement of the port (R49, R182). -/
theorem exec_dormant {c : Instr} (d : s.Dormant) (h : exec c s = .next t) :
    t = s.cleared ∨ (s.power = .inReset ∧ ∃ as1 as0, t = { s with power := .startup, mga := strapAddress as1 as0 }) ∨
      (s.power = .startup ∧ t = { s with power := .running }) ∨ s.Stirs t := by
  have same (k : exec c s = .next s) : t = s.cleared ∨
      (s.power = .inReset ∧ ∃ as1 as0, t = { s with power := .startup, mga := strapAddress as1 as0 }) ∨
      (s.power = .startup ∧ t = { s with power := .running }) ∨ s.Stirs t := by
    cases h.symm.trans k
    exact .inr (.inr (.inr d.stirs))
  have free := State.scluHeld_of_closed d.closed
  have event (g : Seg) (own : busSegment c = some g) := same (exec_busEvent_off own (d.off g) (d.empty g))
  cases c
  case powerOnReset => cases h; exact .inl rfl
  case resetAsserted => cases h; exact .inl rfl
  case resetReleased as1 as0 =>
    cases h
    split
    next held => exact .inr (.inl ⟨held, as1, as0, rfl⟩)
    next => exact .inr (.inr (.inr d.stirs))
  case startupIntervalEnds =>
    cases h
    split
    next starting => exact .inr (.inr (.inl ⟨starting, rfl⟩))
    next => exact .inr (.inr (.inr d.stirs))
  case upstreamStart lines => cases h; exact .inr (.inr (.inr (d.startCondition lines)))
  case upstreamRepeatedStart lines => cases h; exact .inr (.inr (.inr (d.startCondition lines)))
  case upstreamStop lines =>
    cases h
    split
    next => exact .inr (.inr (.inr d.stirs))
    next live =>
      rw [d.endSubTransaction]
      exact .inr (.inr (.inr ⟨.inl rfl, rfl, fun _ idle => absurd (.inr idle) live⟩))
  case addressDecode a dir =>
    cases h
    split
    next decides =>
      rw [if_pos (.inl d.power)]
      exact .inr (.inr (.inr ⟨.inr (.inr rfl), rfl, fun _ idle => nomatch idle.symm.trans decides.1⟩))
    next => exact .inr (.inr (.inr d.stirs))
  case indexByte b => exact same (by change execIndexByte b s = _; simp only [execIndexByte, d.closed])
  case postedDataByte b => exact same (by change execPostedDataByte b s = _; simp only [execPostedDataByte, d.closed])
  case passDataByte b => exact same (by change execPassDataByte b s = _; simp only [execPassDataByte, d.closed])
  case readByteAnswer ack => exact same (by change execReadByteAnswer ack s = _; simp only [execReadByteAnswer, d.sending])
  case mgmtWriteByte b => exact same (congrArg _ (if_neg (by rcases d.port with h | h | h <;> simp [h])))
  case holdLimitExpires => exact same (by change execHoldLimitExpires s = _; simp only [execHoldLimitExpires, d.closed])
  case idleLimitExpires =>
    rcases d.port with idle | address | ignored
    · exact same (congrArg _ (if_pos (.inr idle)))
    · have moved := exec_idleLimitExpires free (by simp [address]) (by simp [address])
      rw [State.abandonWork_closed d.closed (by simp [address]), d.sending_none] at moved
      cases h.symm.trans moved
      refine .inr (.inr (.inr ⟨by simp, ?_, fun _ idle => nomatch idle.symm.trans address⟩))
      unfold State.append
      split <;> rfl
    · cases h.symm.trans (exec_idleLimitExpires_ignored free ignored)
      exact .inr (.inr (.inr ⟨.inl rfl, rfl, fun _ idle => nomatch idle.symm.trans ignored⟩))
  case downstreamStart g => exact event g rfl
  case downstreamAddressAnswer g ack => exact event g rfl
  case downstreamIndexAnswer g ack => exact event g rfl
  case downstreamDataAnswer g ack => exact event g rfl
  case downstreamByteReceived g b => exact event g rfl
  case downstreamStopMade g => exact event g rfl
  case retryGapExpires g => exact event g rfl
  case segTimeout g ninth => exact event g rfl
  case segConflict g => exact event g rfl
  case recoveryOpeningSample g sda => exact event g rfl
  case recoveryPulse g sda => exact event g rfl
  case recoveryStopCondition g sda => exact event g rfl
  case recoverySclLow g => exact event g rfl
  case badCommand code tag =>
    refine same ?_
    change execBadCommand code tag s = _
    unfold execBadCommand
    split
    · exact State.execute_dormant d _ _
    · rfl
  case badLength frame overrun =>
    refine same ?_
    change execBadLength frame overrun s = _
    unfold execBadLength
    split
    · exact State.execute_dormant d _ _
    · rfl
  all_goals exact same (State.execute_dormant d _ _)

/-- A part in its reset has no work. -/
theorem State.ResetOk.dormant (ok : s.ResetOk) (h : s.power ≠ .running) : s.Dormant := by
  have still {u : State} (closed : u.context = none) (sending : u.sending = none) (engines : u.engines = State.reset.engines)
      (lists : u.lists = State.reset.lists) (port : u.port = .upIdle ∨ u.port = .upAddress ∨ u.port = .upIgnore)
      (power : u.power ≠ .running) : u.Dormant := by
    refine ⟨power, closed, port, sending, fun g => ?_, fun g => ?_⟩
    · rw [State.engine_congr engines]
      exact State.mode_cleared State.reset g
    · exact (congrArg (fun l : Vector (List Record) 4 => l[g]) lists).trans (State.list_cleared State.reset g)
  cases power : s.power
  case inReset =>
    have e := ok.1 power
    exact still ((congrArg State.context e).trans rfl) ((congrArg State.sending e).trans rfl)
      ((congrArg State.engines e).trans rfl) ((congrArg State.lists e).trans rfl) (.inl ((congrArg State.port e).trans rfl)) h
  case startup =>
    obtain ⟨port, e⟩ := ok.2 power
    exact still ((congrArg State.context e).trans rfl) ((congrArg State.sending e).trans rfl)
      ((congrArg State.engines e).trans rfl) ((congrArg State.lists e).trans rfl) port h
  case running => exact absurd power h

theorem State.resetOk_of_running (h : s.power = .running) : s.ResetOk :=
  ⟨fun held => (nomatch h.symm.trans held), fun starting => (nomatch h.symm.trans starting)⟩

/-- A movement of the port and the log keeps the reset state (R49, R182). -/
theorem State.ResetOk.stirs (ok : s.ResetOk) (h : s.Stirs t) : t.ResetOk := by
  have power : t.power = s.power := (congrArg State.power h.same).trans rfl
  refine ⟨fun held => ?_, fun starting => ⟨h.port, ?_⟩⟩
  · have held' := power.symm.trans held
    have idle : s.port = .upIdle := congrArg State.port (ok.1 held')
    rw [h.still held' idle]
    exact ok.1 held'
  · have from_reset := (ok.2 (power.symm.trans starting)).2
    have mga : t.mga = s.mga := (congrArg State.mga h.same).trans rfl
    have pending : t.pending = s.pending := (congrArg State.pending h.same).trans rfl
    rw [mga, pending]
    exact h.same.trans (congrArg (fun u : State =>
      { u with port := t.port, answer := t.answer, log := t.log, nextSeq := t.nextSeq, lost := t.lost }) from_reset)

/-- The queue of commands is outside the part. -/
theorem State.ResetOk.withPending (ok : s.ResetOk) (rest : List Instr) : ({ s with pending := rest } : State).ResetOk :=
  ⟨fun held => congrArg (fun u : State => { u with pending := rest }) (ok.1 held),
    fun starting => ⟨(ok.2 starting).1, congrArg (fun u : State => { u with pending := rest }) (ok.2 starting).2⟩⟩

/-- Outside a reset no command but the two resets enters one. -/
theorem exec_running {c : Instr} (running : s.power = .running) (h : exec c s = .next t) : t = s.cleared ∨ t.power = .running := by
  cases exec_stepsTo h with
  | reset _ => exact .inl rfl
  | sampled as1 as0 held => exact nomatch running.symm.trans held
  | started starting => exact nomatch running.symm.trans starting
  | executes m tag lines _ _ => exact .inr ((perform_keeps m lines s).1.trans running)
  | ends m tag lines next _ _ => exact .inr ((perform_keeps m lines s).1.trans running)
  | runs r => exact .inr (r.fixed.1.trans running)

theorem State.resetOk_cleared (s : State) : s.cleared.ResetOk := ⟨fun _ => rfl, nofun⟩

theorem exec_resetOk {c : Instr} (ok : s.ResetOk) (h : exec c s = .next t) : t.ResetOk := by
  by_cases running : s.power = .running
  · rcases exec_running running h with rfl | still
    · exact s.resetOk_cleared
    · exact State.resetOk_of_running still
  · rcases exec_dormant (ok.dormant running) h with rfl | ⟨held, as1, as0, rfl⟩ | ⟨starting, rfl⟩ | stirs
    · exact s.resetOk_cleared
    · obtain ⟨m, q, rfl⟩ : ∃ m q, s = { State.reset with mga := m, pending := q } := ⟨_, _, ok.1 held⟩
      exact ⟨nofun, fun _ => ⟨.inl rfl, rfl⟩⟩
    · exact State.resetOk_of_running rfl
    · exact ok.stirs stirs

/-! ### The tables -/

/-- The invariant of the tables is about the two copies and the MGA alone. -/
theorem State.TablesOk.congr (ok : s.TablesOk) (active : t.active = s.active) (staged : t.staged = s.staged) (mga : t.mga = s.mga) :
    t.TablesOk := by
  unfold State.TablesOk at ok ⊢
  rwa [active, staged, mga]

theorem Tables.Ok.setRoute {u : Tables} (ok : u.Ok) (i : Slot) {e : RouteEntry} (entry : e.Ok) :
    ({ u with routes := u.routes.set i e } : Tables).Ok := by
  refine ⟨fun j => ?_, ok.2⟩
  change (u.routes.set i e)[j.val].Ok
  rw [Vector.getElem_set]
  split
  · exact entry
  · exact ok.1 j

theorem Tables.Ok.setWindow {u : Tables} (ok : u.Ok) (i : Win) {w : WindowEntry} (ordered : w.low.toNat ≤ w.high.toNat) :
    ({ u with windows := u.windows.set i w } : Tables).Ok := by
  refine ⟨ok.1, fun j => ?_⟩
  change (u.windows.set i w)[j.val].low.toNat ≤ (u.windows.set i w)[j.val].high.toNat
  rw [Vector.getElem_set]
  split
  · exact ordered
  · exact ok.2 j

/-- A staged set in range keeps the invariant of the tables (R16, R18). -/
theorem State.TablesOk.stage (ok : s.TablesOk) {u : Tables} (staged : u.Ok) (dirty : Bool) :
    ({ s with staged := u, dirty := dirty } : State).TablesOk := by
  obtain ⟨active, -, rest⟩ := ok
  exact ⟨active, staged, rest⟩

theorem validate_passes {u : Tables} {mga : Addr} (h : validate u mga = none) (i : Slot) : u.Passes mga i := by
  rw [validate, List.findSome?_eq_none_iff] at h
  exact (validateSlot_eq_none_iff u mga i).mp (Option.map_eq_none_iff.mp (h i (List.mem_finRange i)))

/-- A validated set may become active (R24, R25). -/
theorem State.TablesOk.commit (ok : s.TablesOk) (valid : validate s.staged s.mga = none) : s.committed.TablesOk := by
  obtain ⟨-, staged, low, high, -⟩ := ok
  have passes := validate_passes valid
  refine ⟨staged, staged, low, high, fun i on => (passes i on).2.1, fun i j apart oni onj => ?_, fun i on => (passes i on).2.2⟩
  rcases lt_or_gt_of_ne apart with less | less
  · exact (passes j onj).1 i less oni
  · exact ((passes i oni).1 j less onj).symm

theorem perform_tables (m : MgmtCommand) (lines : SegSamples) (ok : s.TablesOk) : (perform m lines s).1.TablesOk := by
  cases configured : configures m
  · obtain ⟨-, mga, active, staged, -⟩ := (runs_perform configured lines s).fixed
    exact ok.congr active staged mga
  cases m
  case setLimits hold idle alert =>
    rcases cmdSetLimits_cases hold idle alert s with same | ⟨h, i, a, -, set⟩
    · exact same.symm ▸ ok
    · exact set.symm ▸ ok.congr rfl rfl rfl
  case routeStage slot image =>
    simp only [perform, cmdRouteStage]
    split
    next => exact ok
    next i _ =>
      split
      next => exact ok
      next e entry => exact ok.stage (ok.2.1.setRoute i (routeEntryOf_sound entry).1) true
  case routeUnstage slot =>
    simp only [perform, cmdRouteUnstage]
    split
    next => exact ok
    next i _ => exact ok.stage (ok.2.1.setRoute i RouteEntry.cleared_ok) true
  case windowStage w low high access cacheable =>
    simp only [perform, cmdWindowStage]
    split
    next => exact ok
    next j _ =>
      split
      next =>
        split
        next => exact ok
        next ordered => exact ok.stage (ok.2.1.setWindow j (not_lt.mp ordered)) true
      next => exact ok
  case commit expected =>
    rcases cmdCommit_cases expected s with same | ⟨rfl, valid⟩
    · exact same.symm ▸ ok
    · rw [perform, cmdCommit_eq valid]
      exact ok.commit valid
  case abandon => exact ok.stage ok.1 false
  case logRelease q =>
    rcases cmdLogRelease_cases q s with same | ⟨k, released⟩
    · exact same.symm ▸ ok
    · exact released.symm ▸ ok.congr rfl rfl rfl
  all_goals cases configured

/-- The straps give an MGA of 70h to 73h (R181). -/
theorem strapAddress_range (as1 as0 : Bool) : 0x70 ≤ (strapAddress as1 as0).toNat ∧ (strapAddress as1 as0).toNat ≤ 0x73 := by
  cases as1 <;> cases as0 <;> decide

theorem exec_tablesOk {c : Instr} (reset : s.ResetOk) (ok : s.TablesOk) (h : exec c s = .next t) : t.TablesOk := by
  cases exec_stepsTo h with
  | reset _ => exact s.tablesOk_cleared ⟨ok.2.2.1, ok.2.2.2.1⟩
  | sampled as1 as0 held =>
    have e := reset.1 held
    have sampled := State.tablesOk_cleared (s := { s with mga := strapAddress as1 as0 }) (strapAddress_range as1 as0)
    exact sampled.congr ((congrArg State.active e).trans rfl) ((congrArg State.staged e).trans rfl) rfl
  | started _ => exact ok.congr rfl rfl rfl
  | executes m tag lines _ _ => exact (perform_tables m lines ok).congr rfl rfl rfl
  | ends m tag lines next _ _ => exact (perform_tables m lines ok).congr rfl rfl rfl
  | runs r =>
    obtain ⟨-, mga, active, staged, -⟩ := r.fixed
    exact ok.congr active staged mga

/-- Settles O52: before the part runs the port alone moves, and a COMMIT validates what it makes active. -/
theorem resetAndTablesKept : Obligations.ResetAndTablesKept := by
  intro s t reset h
  rcases step_cases h with rfl | ⟨c, rest, -, run⟩
  · exact ⟨reset, id⟩
  · exact ⟨exec_resetOk (reset.withPending rest) run, fun ok =>
      exec_tablesOk (reset.withPending rest) (ok.congr rfl rfl rfl) run⟩

end Sys2Proof.Machine
end

section
/-! PROOFS. What an event of one segment's bus, timer or recovery leaves alone: the other segments' engines, commit marks and records, the
active tables and the incarnations (R87, R93, R102, R156). -/

namespace Sys2Proof.Machine

/-- One state differs from another at one segment alone, as far as engines, commit marks, lists, the active tables and the incarnations
go. -/
structure State.Touches (s t : State) (g : Seg) : Prop where
  active : t.active = s.active
  incarnation : ∀ i, (t.slotRuntime i).incarnation = (s.slotRuntime i).incarnation
  list : ∀ h, h ≠ g → t.list h = s.list h
  engine : ∀ h, h ≠ g → t.engine h = s.engine h
  mark : ∀ h, h ≠ g → t.commitMark h = s.commitMark h

namespace State.Touches

variable {s t u : State} {g : Seg}

theorem refl (s : State) (g : Seg) : s.Touches s g := ⟨rfl, fun _ => rfl, fun _ _ => rfl, fun _ _ => rfl, fun _ _ => rfl⟩

theorem trans (h : s.Touches t g) (k : t.Touches u g) : s.Touches u g :=
  ⟨k.active.trans h.active, fun i => (k.incarnation i).trans (h.incarnation i), fun x hx => (k.list x hx).trans (h.list x hx),
    fun x hx => (k.engine x hx).trans (h.engine x hx), fun x hx => (k.mark x hx).trans (h.mark x hx)⟩

/-- The items are those of the state before. -/
theorem same (h : t.active = s.active ∧ t.runtime = s.runtime ∧ t.lists = s.lists ∧ t.engines = s.engines ∧
    t.commitMarks = s.commitMarks) : s.Touches t g := by
  obtain ⟨active, runtime, lists, engines, marks⟩ := h
  refine ⟨active, fun i => ?_, fun x _ => ?_, fun x _ => ?_, fun x _ => ?_⟩
  · simp only [State.slotRuntime, runtime]
  · simp only [State.list, lists]
  · simp only [State.engine, engines]
  · simp only [State.commitMark, marks]

theorem ite {c : Prop} [Decidable c] (h : c → s.Touches t g) (k : ¬c → s.Touches u g) : s.Touches (if c then t else u) g := by
  split
  next yes => exact h yes
  next no => exact k no

end State.Touches

variable (s : State) (g : Seg)

/-! ### Writes of the segment's own items -/

theorem State.touches_setMode (m : EngineMode) : s.Touches (s.setMode g m) g :=
  ⟨rfl, fun _ => rfl, fun _ _ => rfl, fun h other => by rw [State.engine_setMode, if_neg (Ne.symm other)], fun _ _ => rfl⟩

theorem State.touches_setBusy (t : Transaction) : s.Touches (s.setBusy g t) g := s.touches_setMode g (.busy t)

theorem State.touches_setProcedure (p : Procedure) : s.Touches (s.setProcedure g p) g := s.touches_setMode g (.recovery p)

theorem State.touches_leaveBusy (m : EngineMode) : s.Touches (s.leaveBusy g m) g :=
  ⟨rfl, fun _ => rfl, fun _ _ => rfl, fun h other => by rw [State.engine_leaveBusy, if_neg (Ne.symm other)],
    fun h other => by rw [State.commitMark_leaveBusy, if_neg (Ne.symm other)]⟩

theorem State.touches_setList (l : List Record) : s.Touches (s.setList g l) g :=
  ⟨rfl, fun _ => rfl, fun h other => by rw [State.list_setList, if_neg (Ne.symm other)], fun _ _ => rfl, fun _ _ => rfl⟩

/-- A slot's runtime is written without its incarnation. -/
theorem State.touches_setRuntime (i : Slot) {r : Runtime} (same : r.incarnation = (s.slotRuntime i).incarnation) :
    s.Touches (s.setRuntime i r) g := by
  refine ⟨rfl, fun j => ?_, fun _ _ => rfl, fun _ _ => rfl, fun _ _ => rfl⟩
  rw [State.slotRuntime_setRuntime]
  split
  next equal => rw [same, equal]
  next => rfl

theorem State.touches_setPointer (i : Slot) (p : Option Word16) : s.Touches (s.setPointer i p) g :=
  s.touches_setRuntime g i rfl

/-! ### Operations that write no segment's items -/

theorem State.touches_append (e : Entry) : s.Touches (s.append e) g := .same (by simp)

theorem State.touches_offer (h : Seg) (i : Slot) (k : Key) (b : Byte) : s.Touches (s.offer h i k b) g := .same (by simp)

theorem State.touches_cacheWritten (h : Seg) (k : Option Key) (b : Byte) : s.Touches (s.cacheWritten h k b) g := .same (by simp)

theorem State.touches_cacheUnsure (k : Option Key) : s.Touches (s.cacheUnsure k) g := .same (by simp)

theorem State.touches_lateOutcome (t : Transaction) (r : Request) (d : Bool) : s.Touches (s.lateOutcome t r d) g := .same (by simp)

theorem State.touches_failHold : s.Touches s.failHold g := .same (by simp)

theorem State.touches_nackHeldByte : s.Touches s.nackHeldByte g := .same (by simp)

theorem State.touches_dropRequest : s.Touches s.dropRequest g := .same (by simp)

theorem State.touches_reportReadAck : s.Touches s.reportReadAck g := .same (by simp)

theorem State.touches_handByte (b : Byte) : s.Touches (s.handByte b) g := .same (by simp)

theorem State.touches_onContext (f : Context → Context) : s.Touches (s.onContext f) g := .same (by simp)

theorem State.touches_completeRecovery (h : Seg) (p : Procedure) (o : Code) : s.Touches (s.completeRecovery h p o) g :=
  .same (by simp)

theorem State.touches_countByte (c : Context) : s.Touches (s.countByte c) g := by
  rw [State.countByte_eq, State.followed]
  exact .trans (t := { s with context := some c.counted }) (.same ⟨rfl, rfl, rfl, rfl, rfl⟩)
    (.ite (fun _ => State.touches_setPointer _ _ _ _) fun _ => .refl _ _)

theorem State.touches_acceptPosted (c : Context) (r : Record) (b : Byte) : s.Touches (s.acceptPosted c r b) g := by
  unfold State.acceptPosted
  refine .trans ?_ (State.touches_countByte _ _ _)
  split
  · exact .same ⟨rfl, rfl, rfl, rfl, rfl⟩
  · exact .same ⟨rfl, rfl, rfl, rfl, rfl⟩

theorem State.touches_grantRecord : s.Touches s.grantRecord g := by
  unfold State.grantRecord
  split
  · refine .ite (fun _ => ?_) fun _ => .refl _ _
    exact .trans (t := { s with recordRequest := none }) (.same ⟨rfl, rfl, rfl, rfl, rfl⟩) (State.touches_acceptPosted _ _ _ _ _)
  · exact .refl _ _

theorem State.touches_ackHeldByte : s.Touches s.ackHeldByte g := by
  unfold State.ackHeldByte
  split
  · split
    · exact .ite (fun _ => .trans (t := { s with answer := .ack }) (.same ⟨rfl, rfl, rfl, rfl, rfl⟩) (State.touches_countByte _ _ _))
        fun _ => .refl _ _
    · exact .refl _ _
  · exact .refl _ _

/-! ### The arbiter, and the answers of the target -/

theorem State.touches_arbiter : s.Touches (s.arbiter g) g := by
  unfold State.arbiter
  split
  · split
    · exact (s.touches_setMode g _).trans (State.touches_onContext _ _ _)
    · split
      · exact .ite (fun _ => (s.touches_setList g _).trans (State.touches_setMode _ _ _)) fun _ => .refl _ _
      · exact .refl _ _
  · exact .refl _ _

theorem State.touches_refuseOpening (t : Transaction) (r : Request) : s.Touches (s.refuseOpening g t r) g :=
  .ite (fun _ => ((s.touches_setBusy g _).trans (State.touches_cacheUnsure _ _ _)).trans (State.touches_nackHeldByte _ _))
    fun _ => s.touches_setBusy g _

theorem State.touches_answerOpening (t : Transaction) (ack : Bool) : s.Touches (s.answerOpening g t ack) g := by
  unfold State.answerOpening
  split
  · split
    · exact s.touches_setBusy g _
    · exact .refl _ _
  · exact .ite (fun _ => s.touches_setBusy g _) fun _ => s.touches_refuseOpening g t _
  · exact s.touches_setBusy g _

theorem State.touches_answerReadAddress (t : Transaction) (ack : Bool) : s.Touches (s.answerReadAddress g t ack) g := by
  unfold State.answerReadAddress
  split
  · exact .refl _ _
  · exact .ite (fun _ => (s.touches_setBusy g _).trans (State.touches_reportReadAck _ _)) fun _ => s.touches_setBusy g _
  · exact s.touches_setBusy g _

theorem State.touches_answerData (t : Transaction) (ack : Bool) : s.Touches (s.answerData g t ack) g := by
  unfold State.answerData
  split
  · split
    · exact s.touches_setBusy g _
    · exact .refl _ _
  · exact .ite
      (fun _ => ((s.touches_setBusy g _).trans (State.touches_cacheWritten _ _ _ _ _)).trans (State.touches_ackHeldByte _ _))
      fun _ => ((s.touches_setBusy g _).trans (State.touches_cacheUnsure _ _ _)).trans (State.touches_nackHeldByte _ _)
  · exact (s.touches_setBusy g _).trans (State.touches_lateOutcome _ _ _ _ _)

/-! ### Discards and failures -/

theorem State.touches_discarded (cause : Byte) : s.Touches (s.discarded g cause) g := by
  refine ⟨by simp, fun i => by simp, fun h other => ?_, fun h _ => ?_, fun h _ => ?_⟩
  · rw [State.list_discarded, if_neg (Ne.symm other)]
  · simp [State.engine]
  · simp [State.commitMark]

/-- The records of a slot and incarnation, the failed one's, that are listed lie on its own segment (R11, R13). -/
def State.Gathers (s : State) (g : Seg) (r : Record) : Prop :=
  r.incarnation = (s.slotRuntime r.slot).incarnation → ∀ h, h ≠ g → ∀ x ∈ s.list h, ¬x.belongs r.slot r.incarnation = true

theorem State.list_routeFailed (r : Record) (h : Seg) :
    (s.routeFailed r).list h = (s.list h).filter fun x => !(x.slot == r.slot && x.incarnation == r.incarnation) := by
  simp [State.routeFailed, State.list]

theorem State.slotRuntime_routeFailed (r : Record) (i : Slot) :
    (s.routeFailed r).slotRuntime i =
      if r.slot = i then { faulted := true, pointer := none, pending := 0, incarnation := (s.slotRuntime i).incarnation }
      else s.slotRuntime i := by
  change (s.setRuntime r.slot _).slotRuntime i = _
  rw [State.slotRuntime_setRuntime]
  split
  next equal => rw [equal]
  next => rfl

theorem State.touches_routeFailed {r : Record} (current : r.incarnation = (s.slotRuntime r.slot).incarnation)
    (gathers : s.Gathers g r) : s.Touches (s.routeFailed r) g := by
  refine ⟨rfl, fun i => ?_, fun h other => ?_, fun _ _ => rfl, fun _ _ => rfl⟩
  · rw [State.slotRuntime_routeFailed]
    split
    · rfl
    · rfl
  · rw [State.list_routeFailed, List.filter_eq_self]
    intro x member
    exact (Bool.not_eq_true' _).mpr (Bool.eq_false_iff.mpr (gathers current h other x member))

theorem State.touches_afterFailure {r : Record} (gathers : s.Gathers g r) (kind : Kind) (i : Option Word16) (a : Byte) (f : Bool) :
    s.Touches (s.afterFailure r kind i a f) g :=
  .ite (fun current => (s.touches_routeFailed g current.symm gathers).trans (State.touches_append _ _ _))
    fun _ => .trans (t := { s with cache := s.cache.filter fun l => decide ¬(l.key.segment = r.segment ∧ l.key.paddr = r.paddr) })
      (.same ⟨rfl, rfl, rfl, rfl, rfl⟩) (State.touches_append _ _ _)

/-- A list's head fails: it is taken off, and its route's other records with it. -/
theorem State.touches_headFailed {r : Record} (rest : List Record) (gathers : s.Gathers g r) (kind : Kind) (i : Option Word16)
    (a : Byte) (f : Bool) : s.Touches ((s.setList g rest).afterFailure r kind i a f) g := by
  refine (s.touches_setList g rest).trans (State.touches_afterFailure _ _ (fun current h other => ?_) _ _ _ _)
  rw [State.list_setList, if_neg (Ne.symm other)]
  exact gathers current h other

theorem State.touches_recordSuccess (r : Record) (rest : List Record) : s.Touches (s.recordSuccess g r rest) g :=
  .ite (fun _ => (s.touches_setList g rest).trans (State.touches_setRuntime _ _ _ rfl)) fun _ => s.touches_setList g rest

variable {s g}

/-- Every listed record stands in the list of its segment, and one of its slot's current incarnation goes where the active route
does (R11, R13). -/
def State.Placed (s : State) : Prop :=
  ∀ h, ∀ x ∈ s.list h, x.segment = h ∧
    (x.incarnation = (s.slotRuntime x.slot).incarnation → s.active.routes[x.slot].segment = x.segment)

theorem State.Placed.gathers (placed : s.Placed) {r : Record} (listed : r ∈ s.list g) : s.Gathers g r := by
  intro current h other x member belongs
  obtain ⟨slot, incarnation⟩ : x.slot = r.slot ∧ x.incarnation = r.incarnation := by
    simpa [Record.belongs] using belongs
  have route : s.active.routes[x.slot] = s.active.routes[r.slot] := congrArg (fun i : Slot => s.active.routes[i]) slot
  obtain ⟨own, aimed⟩ := placed g r listed
  obtain ⟨its, led⟩ := placed h x member
  exact other (its.symm.trans ((led (by rw [incarnation, slot, current])).symm.trans
    ((congrArg RouteEntry.segment route).trans ((aimed current).trans own))))

theorem State.mem_records_of_list {h : Seg} {x : Record} (member : x ∈ s.list h) : x ∈ s.records := by
  rw [State.records_eq]
  fin_cases h <;> simp_all

theorem State.Ok.placed (ok : s.Ok) : s.Placed := by
  obtain ⟨-, -, -, -, -, -, -, -, ⟨-, queue⟩, -, -, -, -, -, -, records, -, -⟩ := ok
  exact fun h x member =>
    ⟨((queue h).1 x member).1, fun current => (records x (State.mem_records_of_list member) current).2.1⟩

/-! ### The events of a segment -/

variable (gathers : ∀ r ∈ s.list g, s.Gathers g r)

include gathers

theorem State.touches_reportAttempt (t : Transaction) : s.Touches (s.reportAttempt g t) g := by
  unfold State.reportAttempt
  split
  · exact .refl _ _
  next r rest list =>
    simp only [State.failRecord_eq]
    refine .ite (fun _ => s.touches_recordSuccess g r rest) fun _ => .ite (fun _ => .ite (fun _ => s.touches_setList g _) fun _ => ?_)
      fun _ => ?_
    · exact s.touches_headFailed g rest (gathers r (by rw [list]; exact List.mem_cons_self)) _ _ _ _
    · exact s.touches_headFailed g rest (gathers r (by rw [list]; exact List.mem_cons_self)) _ _ _ _

theorem State.touches_reportStop (t : Transaction) : s.Touches (s.reportStop g t) g := by
  unfold State.reportStop
  split
  · exact State.touches_reportAttempt gathers t
  · exact .trans (.ite (fun _ => s.touches_failHold g) fun _ => .refl _ _) (State.touches_dropRequest _ _)
  · exact .ite (fun _ => s.touches_lateOutcome g _ _ _) fun _ => .refl _ _

theorem State.touches_reportFault (t : Transaction) (k : Kind) (d : Phase) : s.Touches (s.reportFault g t k d) g := by
  unfold State.reportFault
  split
  · split
    next r rest list =>
      rw [State.failRecord_eq]
      exact s.touches_headFailed g rest (gathers r (by rw [list]; exact List.mem_cons_self)) _ _ _ _
    · exact .refl _ _
  · refine .trans (.trans ?_ (State.touches_failHold _ _)) (State.touches_dropRequest _ _)
    exact .ite (fun _ => (s.touches_append g _).trans (State.touches_cacheUnsure _ _ _)) fun _ => s.touches_append g _
  · exact .ite (fun _ => (s.touches_append g _).trans (State.touches_lateOutcome _ _ _ _ _)) fun _ => s.touches_append g _

theorem State.touches_segmentFault (t : Transaction) (k : Kind) (d : Phase) : s.Touches (s.segmentFault g t k d) g :=
  ((State.touches_reportFault gathers t k d).trans (State.touches_leaveBusy _ _ _)).trans (State.touches_grantRecord _ _)

omit gathers

theorem State.touches_stuckWith (p : Procedure) (cause : StuckCause) (w : Option (Context × Bool)) :
    s.Touches (s.stuckWith g p cause w) g :=
  ((s.touches_setMode g _).trans (State.touches_append _ _ _)).trans (State.touches_completeRecovery _ _ _ _ _)

theorem State.touches_becomeStuck (p : Procedure) (cause : StuckCause) : s.Touches (s.becomeStuck g p cause) g := by
  rw [State.becomeStuck_eq]
  refine .trans (.trans ?_ (State.touches_discarded _ _ _)) (State.touches_grantRecord _ _)
  exact .ite (fun _ => (State.touches_stuckWith p cause _).trans (State.touches_failHold _ _))
    fun _ => State.touches_stuckWith p cause _

theorem State.touches_pulseOrFail (p : Procedure) : s.Touches (s.pulseOrFail g p) g :=
  .ite (fun _ => s.touches_setProcedure g _) fun _ => State.touches_becomeStuck p _

theorem State.touches_recovered (p : Procedure) : s.Touches (s.recovered g p) g :=
  ((s.touches_setMode g _).trans (State.touches_completeRecovery _ _ _ _ _)).trans (State.touches_arbiter _ _)

theorem exec_touches {c : Instr} (own : busSegment c = some g) (placed : s.Placed) {t : State} (h : exec c s = .next t) :
    s.Touches t g := by
  have gathers : ∀ r ∈ s.list g, s.Gathers g r := fun r member => placed.gathers member
  cases c <;> simp only [busSegment, Option.some.injEq, reduceCtorEq] at own <;> subst own <;>
    simp only [exec, execDownstreamStart, execDownstreamAddressAnswer, execDownstreamIndexAnswer, execDownstreamDataAnswer,
      execDownstreamByteReceived, execDownstreamStopMade, execRetryGapExpires, execSegTimeout, execSegConflict,
      execRecoveryOpeningSample, execRecoveryPulse, execRecoveryStopCondition, execRecoverySclLow, Host.Outcome.next.injEq] at h <;>
    subst h
  case downstreamStart g =>
    split
    · refine .ite (fun _ => ?_) fun _ => .refl _ _
      split
      · exact s.touches_setBusy g _
      · exact .refl _ _
    · exact .refl _ _
  case downstreamAddressAnswer g ack =>
    split
    · exact .ite (fun _ => .ite (fun _ => s.touches_answerReadAddress g _ ack) fun _ => s.touches_answerOpening g _ ack)
        fun _ => .ite (fun _ => s.touches_answerReadAddress g _ ack) fun _ => .refl _ _
    · exact .refl _ _
  case downstreamIndexAnswer g ack =>
    split
    · exact .ite (fun _ => s.touches_answerOpening g _ ack) fun _ => .refl _ _
    · exact .refl _ _
  case downstreamDataAnswer g ack =>
    split
    · exact .ite (fun _ => s.touches_answerData g _ ack) fun _ => .refl _ _
    · exact .refl _ _
  case downstreamByteReceived g b =>
    split
    · refine .ite (fun _ => ?_) fun _ => .refl _ _
      split
      · exact .refl _ _
      · exact ((State.Touches.ite (fun _ => s.touches_offer g _ _ _ _) fun _ => .refl _ _).trans
          (State.touches_setBusy _ _ _)).trans (State.touches_handByte _ _ _)
      · exact (State.Touches.ite (fun _ => s.touches_offer g _ _ _ _) fun _ => .refl _ _).trans (State.touches_setBusy _ _ _)
    · exact .refl _ _
  case downstreamStopMade g =>
    split
    · exact .ite (fun _ => (((State.touches_reportStop gathers _).trans (State.touches_leaveBusy _ _ _)).trans
        (State.touches_grantRecord _ _)).trans (State.touches_arbiter _ _)) fun _ => .refl _ _
    · exact .refl _ _
  case retryGapExpires g =>
    split
    · exact .ite (fun _ => (s.touches_setList g _).trans (State.touches_arbiter _ _)) fun _ => .refl _ _
    · exact .refl _ _
  case segTimeout g ninth =>
    split
    · exact .ite (fun _ => State.touches_segmentFault gathers _ _ _) fun _ => .refl _ _
    · exact .refl _ _
  case segConflict g =>
    split
    · exact .ite (fun _ => State.touches_segmentFault gathers _ _ _) fun _ => .refl _ _
    · exact .refl _ _
  case recoveryOpeningSample g sda =>
    split
    · exact .ite (fun _ => .ite (fun _ => s.touches_setProcedure g _) fun _ => s.touches_setProcedure g _) fun _ => .refl _ _
    · exact .refl _ _
  case recoveryPulse g sda =>
    split
    · exact .ite (fun _ => .ite (fun _ => s.touches_setProcedure g _) fun _ => State.touches_pulseOrFail _) fun _ => .refl _ _
    · exact .refl _ _
  case recoveryStopCondition g sda =>
    split
    · exact .ite (fun _ => .ite (fun _ => State.touches_recovered _) fun _ => State.touches_pulseOrFail _) fun _ => .refl _ _
    · exact .refl _ _
  case recoverySclLow g =>
    split
    · exact State.touches_becomeStuck _ _
    · exact .refl _ _

/-- Settles O59: whatever the event, the operations it runs write the engine, the mark and the list of its own segment alone; a
failed record's route keeps all its records there. -/
theorem segmentsIndependent : Obligations.SegmentsIndependent := by
  intro c g h s t ok own other step
  have touches := exec_touches own ok.placed step
  exact ⟨touches.engine h other, touches.mark h other, touches.list h other⟩

end Sys2Proof.Machine
end

section
/-! PROOFS. Pointers, indices and cache lines (R9, R21, R29, R150): what a context knows of its route, what a Pointer and a line's key may
be, and that the part's operations keep to it. -/

namespace Sys2Proof.Machine

variable {s t : State}

/-! ### Indices within a width (R29) -/

theorem IndexWidth.wrap_lt {w : IndexWidth} (indexed : w ≠ .raw) (i : Word16) : (w.wrap i).toNat < w.span := by
  cases w with
  | raw => exact absurd rfl indexed
  | one =>
    simp only [IndexWidth.wrap, IndexWidth.span, IndexWidth.bytes, BitVec.toNat_ofNat]
    omega
  | two => exact i.isLt

theorem advance_lt {w : IndexWidth} (indexed : w ≠ .raw) (autoInc : Bool) {i : Word16} (h : i.toNat < w.span) :
    (advance w autoInc i).toNat < w.span := by
  unfold advance
  split
  · exact w.wrap_lt indexed _
  · exact h

/-! ### What is known of a route -/

/-- A slot's route may have this Pointer (R9, R21). -/
def State.Points (s : State) (i : Slot) (p : Option Word16) : Prop :=
  ∀ q ∈ p, s.active.routes[i].valid = true ∧ s.active.routes[i].width ≠ .raw ∧ q.toNat < s.active.routes[i].width.span

/-- A context has its slot's active entry and current incarnation, and an index within the width (R48). -/
structure Context.Known (c : Context) (active : Tables) (runtime : Slot → Runtime) : Prop where
  route : c.route = active.routes[c.slot]
  valid : c.route.valid = true
  incarnation : c.incarnation = (runtime c.slot).incarnation
  index : ∀ i ∈ c.index, c.route.width ≠ .raw ∧ i.toNat < c.route.width.span

/-- A context is known in the tables and runtimes of a state. -/
def State.Knows (s : State) (c : Context) : Prop := c.Known s.active s.slotRuntime

/-- Every line's key is a cacheable index of a valid active route to its target (R150). -/
def State.Caches (s : State) (lines : List Line) : Prop := ∀ l ∈ lines, ∃ i : Slot, s.leadsTo i l.key

/-- Pointers, the context and the cache lines are those of active routes. -/
structure State.Addressed (s : State) : Prop where
  pointer : ∀ i, s.Points i (s.slotRuntime i).pointer
  context : ∀ c ∈ s.context, s.Knows c
  lines : s.Caches s.cache

theorem State.points_none (s : State) (i : Slot) : s.Points i none := nofun

/-- What is known of a context does not speak of its other fields. -/
theorem State.Knows.alike {c : Context} (h : s.Knows c) (d : Context)
    (same : d.slot = c.slot ∧ d.route = c.route ∧ d.incarnation = c.incarnation ∧ d.index = c.index) : s.Knows d := by
  cases c
  cases d
  obtain ⟨rfl, rfl, rfl, rfl⟩ := same
  exact ⟨h.route, h.valid, h.incarnation, h.index⟩

theorem State.Knows.congr {c : Context} (h : s.Knows c) (active : t.active = s.active)
    (incarnation : ∀ i, (t.slotRuntime i).incarnation = (s.slotRuntime i).incarnation) : t.Knows c :=
  ⟨by rw [h.route, active], h.valid, h.incarnation.trans (incarnation _).symm, h.index⟩

/-- The Pointer that follows a context's index, one byte on. -/
theorem State.Knows.points {c : Context} (h : s.Knows c) {i : Option Word16}
    (within : ∀ k ∈ i, c.route.width ≠ .raw ∧ k.toNat < c.route.width.span) : s.Points c.slot i := by
  intro q member
  obtain ⟨indexed, small⟩ := within q member
  have valid := h.valid
  rw [h.route] at valid indexed small
  exact ⟨valid, indexed, small⟩

theorem State.Knows.advanced {c : Context} (h : s.Knows c) :
    ∀ k ∈ c.index.map (advance c.route.width c.route.autoInc), c.route.width ≠ .raw ∧ k.toNat < c.route.width.span := by
  intro k member
  obtain ⟨i, index, rfl⟩ := Option.mem_map.mp member
  exact ⟨(h.index i index).1, advance_lt (h.index i index).1 _ (h.index i index).2⟩

theorem State.Knows.counted {c : Context} (h : s.Knows c) : s.Knows c.counted :=
  ⟨h.route, h.valid, h.incarnation, h.advanced⟩

/-! ### Cache lines -/

theorem State.Caches.sublist {l m : List Line} (h : s.Caches l) (sub : m.Sublist l) : s.Caches m :=
  fun x member => h x (sub.subset member)

theorem State.Caches.cons {l : List Line} (h : s.Caches l) {k : Key} (leads : ∃ i, s.leadsTo i k) (v : Byte) :
    s.Caches (⟨k, v⟩ :: l) := by
  intro x member
  rcases List.mem_cons.mp member with rfl | old
  · exact leads
  · exact h x old

theorem State.Caches.dropKey {l : List Line} (h : s.Caches l) (k : Key) : s.Caches (dropKey l k) := h.sublist List.filter_sublist

theorem State.Caches.leads {l : List Line} (h : s.Caches l) {k : Key} (there : (lookup l k).isSome = true) :
    ∃ i, s.leadsTo i k := by
  obtain ⟨x, member, rfl⟩ := (lookup_isSome_iff l k).mp there
  exact h x member

theorem State.Caches.toFront {l : List Line} (h : s.Caches l) {k : Key} (there : (lookup l k).isSome = true) (v : Byte) :
    s.Caches (toFront l k v) := (h.dropKey k).cons (h.leads there) v

theorem State.Caches.updateLine {l : List Line} (h : s.Caches l) (k : Key) (v : Byte) : s.Caches (updateLine l k v) := by
  unfold Machine.updateLine
  split
  next there => exact h.toFront there v
  next => exact h

/-- Only the active tables say where a key leads. -/
theorem State.Caches.congr {l : List Line} (h : s.Caches l) (active : t.active = s.active) : t.Caches l := by
  intro x member
  obtain ⟨i, leads⟩ := h x member
  refine ⟨i, ?_⟩
  unfold State.leadsTo at leads ⊢
  rw [active]
  exact leads

/-! ### What keeps to it -/

namespace State.Addressed

/-- Pointers as before or UNKNOWN, incarnations as before, a context and lines that are known. -/
theorem keep (h : s.Addressed) (active : t.active = s.active)
    (runtime : ∀ i, (t.slotRuntime i).incarnation = (s.slotRuntime i).incarnation ∧
      ((t.slotRuntime i).pointer = none ∨ (t.slotRuntime i).pointer = (s.slotRuntime i).pointer))
    (context : ∀ c ∈ t.context, s.Knows c) (lines : s.Caches t.cache) : t.Addressed where
  pointer i := by
    rcases (runtime i).2 with unknown | same
    · rw [unknown]; exact t.points_none i
    · unfold State.Points
      rw [same, active]
      exact h.pointer i
  context c member := (context c member).congr active fun i => (runtime i).1
  lines := lines.congr active

/-- Only the context, to a known one, and lines taken away. -/
theorem close (h : s.Addressed) (e : t.active = s.active ∧ t.runtime = s.runtime) (context : ∀ c ∈ t.context, s.Knows c)
    (lines : s.Caches t.cache) : t.Addressed :=
  h.keep e.1 (fun i => by simp only [State.slotRuntime, e.2, or_true, and_self]) context lines

/-- None of the items changes. -/
theorem same (h : s.Addressed)
    (e : t.active = s.active ∧ t.runtime = s.runtime ∧ t.context = s.context ∧ t.cache = s.cache) : t.Addressed := by
  obtain ⟨active, runtime, context, cache⟩ := e
  exact h.close ⟨active, runtime⟩ (context ▸ h.context) (cache ▸ h.lines)

theorem ite {u : State} {p : Prop} [Decidable p] (h : p → t.Addressed) (k : ¬p → u.Addressed) :
    (if p then t else u).Addressed := by
  split
  next yes => exact h yes
  next no => exact k no

variable (h : s.Addressed)

include h

theorem append (e : Entry) : (s.append e).Addressed := h.same (by simp)

theorem setMode (g : Seg) (m : EngineMode) : (s.setMode g m).Addressed := h.same (by simp)

theorem setBusy (g : Seg) (x : Transaction) : (s.setBusy g x).Addressed := h.setMode g (.busy x)

theorem leaveBusy (g : Seg) (m : EngineMode) : (s.leaveBusy g m).Addressed := h.same (by simp)

theorem setList (g : Seg) (l : List Record) : (s.setList g l).Addressed := h.same (by simp)

theorem onContext {f : Context → Context}
    (alike : ∀ c, (f c).slot = c.slot ∧ (f c).route = c.route ∧ (f c).incarnation = c.incarnation ∧ (f c).index = c.index) :
    (s.onContext f).Addressed := by
  refine h.close ⟨rfl, rfl⟩ (fun d member => ?_) h.lines
  obtain ⟨c, opened, rfl⟩ := Option.mem_map.mp member
  exact (h.context c opened).alike _ (alike c)

theorem setPointer (i : Slot) {p : Option Word16} (points : s.Points i p) : (s.setPointer i p).Addressed where
  pointer j := by
    rw [State.slotRuntime_setPointer]
    split
    next equal => exact equal ▸ points
    next => exact h.pointer j
  context c member :=
    (h.context c member).congr rfl fun j => by
      rw [State.slotRuntime_setPointer]
      split
      next equal => rw [equal]
      next => rfl
  lines := h.lines

theorem setRuntime (i : Slot) {r : Runtime} (same : r.pointer = (s.slotRuntime i).pointer)
    (incarnation : r.incarnation = (s.slotRuntime i).incarnation) : (s.setRuntime i r).Addressed := by
  refine h.keep rfl (fun j => ?_) h.context h.lines
  rw [State.slotRuntime_setRuntime]
  split
  next equal => subst equal; exact ⟨incarnation, .inr same⟩
  next => exact ⟨rfl, .inr rfl⟩

theorem cacheUnsure (k : Option Key) : (s.cacheUnsure k).Addressed := by
  cases k with
  | none => exact h
  | some k => exact h.close ⟨rfl, rfl⟩ h.context (h.lines.dropKey k)

theorem cacheWritten (g : Seg) (k : Option Key) (b : Byte) : (s.cacheWritten g k b).Addressed := by
  cases k with
  | none => exact h
  | some k =>
    refine h.close ⟨rfl, rfl⟩ h.context ?_
    change s.Caches (if _ then _ else _)
    split
    · exact h.lines.dropKey k
    · exact h.lines.updateLine k b

theorem lateOutcome (x : Transaction) (r : Request) (d : Bool) : (s.lateOutcome x r d).Addressed :=
  ite (fun _ => (h.cacheUnsure _).append _) fun _ => h.cacheUnsure _

/-- A byte read is offered under a key of the request's slot, which leads there unless the engine is marked. -/
theorem offer {g : Seg} {i : Slot} {k : Key}
    (leads : s.commitMark g = false →
      s.active.routes[i].valid = true ∧ s.active.routes[i].segment = k.segment ∧ s.active.routes[i].paddr = k.paddr) (b : Byte) :
    (s.offer g i k b).Addressed := by
  refine .ite (fun _ => ?_) fun free => .ite (fun there => ?_) fun _ => .ite (fun fits => ?_) fun _ => h
  · exact h.close ⟨rfl, rfl⟩ h.context (h.lines.dropKey k)
  · exact h.close ⟨rfl, rfl⟩ h.context (h.lines.toFront there b)
  · obtain ⟨valid, segment, paddr⟩ := leads (by simp_all)
    refine h.close ⟨rfl, rfl⟩ h.context ((h.lines.sublist (List.take_sublist _ _)).cons ⟨i, valid, segment, paddr, ?_⟩ b)
    exact (Bool.and_eq_true_iff.mp fits).1

theorem countByte {c : Context} (known : s.Knows c) : (s.countByte c).Addressed := by
  rw [State.countByte_eq]
  have counted : ({ s with context := some c.counted } : State).Addressed :=
    h.close ⟨rfl, rfl⟩ (fun _ member => Option.mem_some.mp member ▸ known.counted) h.lines
  exact .ite (fun _ => counted.setPointer c.slot (known.points known.advanced)) fun _ => counted

theorem acceptPosted {c : Context} (known : s.Knows c) (r : Record) (b : Byte) : (s.acceptPosted c r b).Addressed := by
  unfold State.acceptPosted
  dsimp only
  refine Addressed.countByte ?_ ?_
  · split
    · exact h.same ⟨rfl, rfl, rfl, rfl⟩
    · exact h.close ⟨rfl, rfl⟩ h.context (h.lines.updateLine _ b)
  · split
    · exact known
    · exact known

theorem grantRecord : s.grantRecord.Addressed := by
  unfold State.grantRecord
  split
  next b c _ opened =>
    have freed : ({ s with recordRequest := none } : State).Addressed := h.same ⟨rfl, rfl, rfl, rfl⟩
    exact .ite (fun _ => freed.acceptPosted ((h.context c opened).alike { c with hold := none } ⟨rfl, rfl, rfl, rfl⟩) _ b)
      fun _ => h
  next => exact h

theorem arbiter (g : Seg) : (s.arbiter g).Addressed := by
  unfold State.arbiter
  split
  · split
    · exact (h.setMode g _).onContext fun _ => ⟨rfl, rfl, rfl, rfl⟩
    · split
      · exact .ite (fun _ => (h.setList g _).setMode g _) fun _ => h
      · exact h
  · exact h

theorem failHold : s.failHold.Addressed := by
  refine h.close (by simp) (fun d member => ?_) (by simpa using h.lines)
  unfold State.failHold at member
  split at member
  next none_ => exact h.context d (by simp_all)
  next c opened =>
    have known := h.context c opened
    split at member
    next => exact h.context d (by simp_all)
    next =>
      split at member
      next => cases member
      next => cases member; exact known.alike _ ⟨rfl, rfl, rfl, rfl⟩
      next => cases member; exact known.alike _ ⟨rfl, rfl, rfl, rfl⟩

theorem nackHeldByte : s.nackHeldByte.Addressed :=
  onContext (s := { s with answer := .nack }) (h.same ⟨rfl, rfl, rfl, rfl⟩) fun _ => ⟨rfl, rfl, rfl, rfl⟩

theorem dropRequest : s.dropRequest.Addressed := h.onContext fun _ => ⟨rfl, rfl, rfl, rfl⟩

theorem detachEngine (g : Seg) (owed : Bool) : (s.detachEngine g owed).Addressed := h.same (by simp)

theorem endEngine (g : Seg) : (s.endEngine g).Addressed := h.same (by simp)

theorem releaseRequest (c : Context) (owed : Bool) : (s.releaseRequest c owed).Addressed := by
  unfold State.releaseRequest
  split
  · exact h.detachEngine _ owed
  · exact h

theorem reportReadAck : s.reportReadAck.Addressed := by
  unfold State.reportReadAck
  split
  · exact h
  next c opened =>
    split
    · refine .ite (fun _ => ?_) fun _ => h
      refine h.close ⟨rfl, rfl⟩ (fun d member => ?_) h.lines
      cases member
      exact (h.context c opened).alike _ ⟨rfl, rfl, rfl, rfl⟩
    · exact h

theorem handByte (b : Byte) : (s.handByte b).Addressed := by
  unfold State.handByte
  split
  · exact .ite (fun _ => onContext (s := { s with sending := some b }) (h.same ⟨rfl, rfl, rfl, rfl⟩)
      fun _ => ⟨rfl, rfl, rfl, rfl⟩) fun _ => h
  · exact h

theorem ackHeldByte : s.ackHeldByte.Addressed := by
  unfold State.ackHeldByte
  split
  next c opened =>
    split
    · exact .ite (fun _ => countByte (s := { s with answer := .ack }) (h.same ⟨rfl, rfl, rfl, rfl⟩)
        ((h.context c opened).alike _ ⟨rfl, rfl, rfl, rfl⟩)) fun _ => h
    · exact h
  · exact h

theorem routeFailed (r : Record) : (s.routeFailed r).Addressed := by
  refine h.keep rfl (fun i => ?_) (fun d member => ?_) (h.lines.sublist List.filter_sublist)
  · rw [State.slotRuntime_routeFailed]
    split
    · exact ⟨rfl, .inl rfl⟩
    · exact ⟨rfl, .inr rfl⟩
  · obtain ⟨c, opened, rfl⟩ := Option.mem_map.mp member
    exact (h.context c opened).alike _ ⟨rfl, rfl, rfl, rfl⟩

theorem afterFailure (r : Record) (kind : Kind) (i : Option Word16) (a : Byte) (f : Bool) :
    (s.afterFailure r kind i a f).Addressed :=
  .ite (fun _ => (h.routeFailed r).append _) fun _ =>
    append (s := { s with cache := s.cache.filter fun l => decide ¬(l.key.segment = r.segment ∧ l.key.paddr = r.paddr) })
      (h.close ⟨rfl, rfl⟩ h.context (h.lines.sublist List.filter_sublist)) _

theorem discarded (g : Seg) (cause : Byte) : (s.discarded g cause).Addressed := by
  refine h.keep (by simp) (fun i => ?_) (fun d member => ?_) (by simpa using h.lines)
  · rw [State.slotRuntime_discarded]
    exact ⟨rfl, .inr rfl⟩
  · rw [State.context_discarded] at member
    obtain ⟨c, opened, rfl⟩ := Option.mem_map.mp member
    exact (h.context c opened).alike _ ⟨rfl, rfl, rfl, rfl⟩

/-- A context is put in place of another. -/
theorem withContext {c d : Context} (known : s.Knows c) (e : t.active = s.active ∧ t.runtime = s.runtime ∧ t.cache = s.cache)
    (context : t.context = some d)
    (alike : d.slot = c.slot ∧ d.route = c.route ∧ d.incarnation = c.incarnation ∧ d.index = c.index) : t.Addressed := by
  obtain ⟨active, runtime, cache⟩ := e
  refine h.close ⟨active, runtime⟩ (fun x member => ?_) (by rw [cache]; exact h.lines)
  rw [context] at member
  exact Option.mem_some.mp member ▸ known.alike d alike

theorem withoutContext (e : t.active = s.active ∧ t.runtime = s.runtime ∧ t.cache = s.cache) (context : t.context = none) :
    t.Addressed := by
  obtain ⟨active, runtime, cache⟩ := e
  refine h.close ⟨active, runtime⟩ (fun c member => ?_) (by rw [cache]; exact h.lines)
  rw [context] at member
  cases member

theorem handWriteByte {c : Context} (known : s.Knows c) (b : Byte) : (s.handWriteByte c b).Addressed := by
  have made : ({ s with answer := .released, context := some { c with hold := some ⟨.passByte, s.holdLimit⟩ } } : State).Addressed :=
    h.withContext known ⟨rfl, rfl, rfl⟩ rfl ⟨rfl, rfl, rfl, rfl⟩
  unfold State.handWriteByte
  dsimp only
  split
  · exact .ite (fun _ => made.setBusy _ _) fun _ => made
  · exact made

theorem readOn {c : Context} (known : s.Knows c) : (s.readOn c).Addressed := by
  have made : ({ s with sending := none, context := some { c with hold := some ⟨.readByte, s.holdLimit⟩ } } : State).Addressed :=
    h.withContext known ⟨rfl, rfl, rfl⟩ rfl ⟨rfl, rfl, rfl, rfl⟩
  unfold State.readOn
  dsimp only
  split
  · exact .ite (fun _ => made.setBusy _ _) fun _ => made
  · exact made

theorem deliver {c : Context} (known : s.Knows c) : (s.deliver c).Addressed := by
  unfold State.deliver
  split
  · refine setPointer (onContext (h.countByte known) ?_) _ (State.points_none _ _)
    exact fun _ => ⟨rfl, rfl, rfl, rfl⟩
  · exact h.countByte known

theorem recordSuccess (g : Seg) (r : Record) (rest : List Record) : (s.recordSuccess g r rest).Addressed :=
  .ite (fun _ => (h.setList g rest).setRuntime _ rfl rfl) fun _ => h.setList g rest

end State.Addressed

end Sys2Proof.Machine
end

section
/-! PROOFS. Transactions that fit their Work (R103, R105, R115 to R123): what fitting says for each Work, and that every change the part
makes to a transaction keeps it. -/

namespace Sys2Proof.Machine

variable {t : Transaction} {r : Request}

/-! ### What fitting says -/

theorem Transaction.fits_record (work : t.work = .record) :
    t.Fits ↔
      t.position ≤ Config.countMax ∧ (t.phase = .addressing → t.position = 0) ∧
        (t.phase.beforeAnswer = true ∨ t.phase = .stopping) ∧ t.unanswered = false ∧ t.entryOwed = false := by
  simp only [Transaction.Fits, work]

theorem Transaction.fits_request (work : t.work = .request r) :
    t.Fits ↔
      t.position ≤ Config.countMax ∧ (t.phase = .addressing → t.position = 0) ∧ r.kind.passes t.phase = true ∧
        (t.phase = .indexing → t.position ≤ r.width.bytes) ∧ t.entryOwed = false ∧
        (t.unanswered = true ↔ r.kind = .write ∧ t.phase.beforeAnswer = true) := by
  simp only [Transaction.Fits, work]

theorem Transaction.fits_detached (work : t.work = .detached r) :
    t.Fits ↔
      t.position ≤ Config.countMax ∧ (t.phase = .addressing → t.position = 0) ∧ r.kind.passes t.phase = true ∧
        t.phase ≠ .writeWait ∧ t.phase ≠ .ackHold ∧ (t.unanswered = true → r.kind = .write) ∧
        (t.entryOwed = true → t.unanswered = true) := by
  simp only [Transaction.Fits, work]

theorem Transaction.Fits.ofRecordWork (work : t.work = .record) (position : t.position ≤ Config.countMax)
    (address : t.phase = .addressing → t.position = 0) (phase : t.phase.beforeAnswer = true ∨ t.phase = .stopping)
    (unanswered : t.unanswered = false) (owed : t.entryOwed = false) : t.Fits :=
  (Transaction.fits_record work).mpr ⟨position, address, phase, unanswered, owed⟩

theorem Transaction.Fits.ofRequestWork (work : t.work = .request r) (position : t.position ≤ Config.countMax)
    (address : t.phase = .addressing → t.position = 0) (passes : r.kind.passes t.phase = true)
    (index : t.phase = .indexing → t.position ≤ r.width.bytes) (owed : t.entryOwed = false)
    (answer : t.unanswered = true ↔ r.kind = .write ∧ t.phase.beforeAnswer = true) : t.Fits :=
  (Transaction.fits_request work).mpr ⟨position, address, passes, index, owed, answer⟩

theorem Transaction.Fits.ofDetachedWork (work : t.work = .detached r) (position : t.position ≤ Config.countMax)
    (address : t.phase = .addressing → t.position = 0) (passes : r.kind.passes t.phase = true) (waits : t.phase ≠ .writeWait)
    (holds : t.phase ≠ .ackHold) (write : t.unanswered = true → r.kind = .write)
    (owes : t.entryOwed = true → t.unanswered = true) : t.Fits :=
  (Transaction.fits_detached work).mpr ⟨position, address, passes, waits, holds, write, owes⟩

theorem RequestKind.passes_stopping (k : RequestKind) : k.passes .stopping = true := by cases k <;> rfl

theorem RequestKind.passes_addressing (k : RequestKind) : k.passes .addressing = true := by cases k <;> rfl

/-- A transaction that is taken (R112). -/
theorem Transaction.fits_ofRequest (r : Request) : (Transaction.ofRequest r).Fits := by
  rw [Transaction.fits_request (r := r) rfl]
  refine ⟨Nat.zero_le _, fun _ => rfl, r.kind.passes_addressing, nofun, rfl, ?_⟩
  change (r.kind == .write) = true ↔ _
  simp [Transaction.ofRequest, Phase.beforeAnswer]

theorem Transaction.fits_ofRecord : Transaction.ofRecord.Fits :=
  .ofRecordWork rfl (Nat.zero_le _) (fun _ => rfl) (.inl rfl) rfl rfl

/-! ### Bytes sent and answered -/

/-- A phase in which an opening byte is answered: PA+W or an index byte (R105, R114). -/
def Transaction.Opening (t : Transaction) (r : Request) : Prop :=
  (t.phase = .addressing ∨ t.phase = .indexing) ∧ r.kind ≠ .rawRead

/-- A phase in which PA+R is answered, of a read (R105, R114). -/
def Transaction.Turning (t : Transaction) (r : Request) : Prop :=
  (t.phase = .addressing ∨ t.phase = .restarting) ∧ r.kind ≠ .write

/-- The next byte of a record, or P after the last. -/
theorem Transaction.Fits.recordSent (fits : t.Fits) (work : t.work = .record) (w : IndexWidth) (content : List Byte) :
    (t.sendNext w content (t.stopWith false)).Fits := by
  obtain ⟨position, -, -, unanswered, owed⟩ := (Transaction.fits_record work).mp fits
  unfold Transaction.sendNext
  split
  · refine .ofRecordWork work (Nat.min_le_left _ _) (fun h => ?_) (.inl ?_) unanswered owed
    · dsimp only at h
      split at h <;> cases h
    · dsimp only
      split <;> rfl
  · exact .ofRecordWork work position nofun (.inr rfl) unanswered owed

theorem Transaction.Fits.recordStopped (fits : t.Fits) (work : t.work = .record) (refused : Bool) : (t.stopWith refused).Fits := by
  obtain ⟨position, -, -, unanswered, owed⟩ := (Transaction.fits_record work).mp fits
  exact .ofRecordWork work position nofun (.inr rfl) unanswered owed

/-- A request's byte after an opening one: an index byte, a write's data byte, or PA+R of an indexed read. -/
inductive Transaction.Sends (t : Transaction) (r : Request) : Transaction → Prop
  | index (b : Byte) (more : t.position < r.width.bytes) :
    t.Sends r { t with phase := .indexing, position := min Config.countMax (t.position + 1), out := .byte b }
  | data (b : Byte) (write : r.kind = .write) :
    t.Sends r { t with phase := .writing, position := min Config.countMax (t.position + 1), out := .byte b }
  | turn (read : r.kind = .indexedRead) : t.Sends r (t.restart r.paddr)

theorem Transaction.Fits.position_le (fits : t.Fits) (work : t.work = .request r) (opening : t.Opening r) :
    t.position ≤ r.width.bytes := by
  obtain ⟨-, first, -, index, -⟩ := (Transaction.fits_request work).mp fits
  rcases opening.1 with h | h
  · exact (first h).le.trans (Nat.zero_le _)
  · exact index h

theorem Request.content_length (r : Request) : r.content.length = r.width.bytes + if r.kind = .write then 1 else 0 := by
  rw [Request.content_eq, List.length_append, IndexWidth.bytesOf_length]
  split <;> rfl

theorem Transaction.Fits.sends (fits : t.Fits) (work : t.work = .request r) (opening : t.Opening r) :
    t.Sends r (t.sendNext r.width r.content (t.restart r.paddr)) := by
  have within := fits.position_le work opening
  have length := r.content_length
  unfold Transaction.sendNext
  split
  next b next =>
    have inside := (List.getElem?_eq_some_iff.mp next).1
    split
    next more => exact .index b more
    next last =>
      refine .data b ?_
      by_contra read
      rw [length, if_neg read] at inside
      omega
  next past =>
    refine .turn ?_
    have outside := List.getElem?_eq_none_iff.mp past
    have notWrite : r.kind ≠ .write := by
      intro write
      rw [length, if_pos write] at outside
      omega
    cases kind : r.kind with
    | write => exact absurd kind notWrite
    | indexedRead => rfl
    | rawRead => exact absurd kind opening.2

theorem Transaction.Fits.requestSent (fits : t.Fits) (work : t.work = .request r) (opening : t.Opening r) {u : Transaction}
    (sends : t.Sends r u) : u.Fits := by
  obtain ⟨-, -, passes, -, owed, answer⟩ := (Transaction.fits_request work).mp fits
  have before : t.phase.beforeAnswer = true := by rcases opening.1 with h | h <;> simp [h, Phase.beforeAnswer]
  rw [before] at answer
  cases sends with
  | index b more =>
    refine .ofRequestWork work (Nat.min_le_left _ _) nofun ?_ (fun _ => ?_) owed ?_
    · cases kind : r.kind with
      | rawRead => exact absurd kind opening.2
      | _ => rfl
    · exact (Nat.min_le_right _ _).trans more
    · exact answer
  | data b write =>
    refine .ofRequestWork work (Nat.min_le_left _ _) nofun (by rw [write]; rfl) nofun owed ?_
    exact answer
  | turn read =>
    obtain ⟨position, -⟩ := (Transaction.fits_request work).mp fits
    refine .ofRequestWork work position nofun (by rw [read]; rfl) nofun owed ?_
    simpa [Transaction.restart, Phase.beforeAnswer, read] using answer

/-- A request's transaction goes to P with its byte answered. -/
theorem Transaction.Fits.requestStopped (fits : t.Fits) (work : t.work = .request r) (refused : Bool) :
    Transaction.Fits { t.stopWith refused with unanswered := false } := by
  obtain ⟨position, -, -, -, owed, -⟩ := (Transaction.fits_request work).mp fits
  exact .ofRequestWork work position nofun r.kind.passes_stopping nofun owed ⟨nofun, nofun⟩

theorem Transaction.Fits.unanswered_of_read (fits : t.Fits) (work : t.work = .request r) (read : r.kind ≠ .write) :
    t.unanswered = false := by
  obtain ⟨-, -, -, -, -, answer⟩ := (Transaction.fits_request work).mp fits
  exact Bool.eq_false_iff.mpr fun h => read (answer.mp h).1

/-- A read refused at PA+R (R118). -/
theorem Transaction.Fits.readRefused (fits : t.Fits) (work : t.work = .request r) (read : r.kind ≠ .write) (refused : Bool) :
    (t.stopWith refused).Fits := by
  have := fits.requestStopped work refused
  rwa [← fits.unanswered_of_read work read] at this

/-- A read goes to READING (R118). -/
theorem Transaction.Fits.requestReads (fits : t.Fits) (work : t.work = .request r) (turning : t.Turning r) : t.read.Fits := by
  obtain ⟨position, -, -, -, owed, -⟩ := (Transaction.fits_request work).mp fits
  refine .ofRequestWork work position nofun ?_ nofun owed ?_
  · cases kind : r.kind with
    | write => exact absurd kind turning.2
    | _ => rfl
  · have := fits.unanswered_of_read work turning.2
    simp [Transaction.read, this, turning.2]

/-- The data byte is acknowledged (R116). -/
theorem Transaction.Fits.writeAnswered (fits : t.Fits) (work : t.work = .request r) (phase : t.phase = .writing) :
    Transaction.Fits { t with phase := .writeWait, unanswered := false, out := .released } := by
  obtain ⟨position, -, passes, -, owed, -⟩ := (Transaction.fits_request work).mp fits
  refine .ofRequestWork work position nofun ?_ nofun owed ⟨nofun, fun h => nomatch h.2⟩
  rw [phase] at passes
  cases kind : r.kind with
  | write => rfl
  | _ => simp [kind, RequestKind.passes] at passes

/-- A byte is read (R119). -/
theorem Transaction.Fits.byteRead (fits : t.Fits) (work : t.work = .request r) (phase : t.phase = .reading) :
    Transaction.Fits { t with phase := .ackHold, out := .released } := by
  obtain ⟨position, -, passes, -, owed, answer⟩ := (Transaction.fits_request work).mp fits
  rw [phase] at passes answer
  refine .ofRequestWork work position nofun ?_ nofun owed ?_
  · cases kind : r.kind with
    | write => simp [kind, RequestKind.passes] at passes
    | _ => rfl
  · simpa [Phase.beforeAnswer] using answer

/-- The byte held in ACK_HOLD is acknowledged and the next one read (R120). -/
theorem Transaction.Fits.readsOn (fits : t.Fits) (work : t.work = .request r) (phase : t.phase = .ackHold) (i : Word16) (o : SegOut) :
    Transaction.Fits { t with phase := .reading, readIndex := i, out := o } := by
  obtain ⟨position, -, passes, -, owed, answer⟩ := (Transaction.fits_request work).mp fits
  rw [phase] at passes answer
  refine .ofRequestWork work position nofun ?_ nofun owed ?_
  · cases kind : r.kind with
    | write => simp [kind, RequestKind.passes] at passes
    | _ => rfl
  · simpa [Phase.beforeAnswer] using answer

/-- A later byte of a write (R117). -/
theorem Transaction.Fits.writesOn (fits : t.Fits) (work : t.work = .request r) (phase : t.phase = .writeWait) (p : Nat) (i : Word16)
    (b : Byte) :
    Transaction.Fits
      { t with
        phase := .writing, position := min Config.countMax p, writeIndex := i, data := b, unanswered := true, out := .byte b } := by
  obtain ⟨-, -, passes, -, owed, -⟩ := (Transaction.fits_request work).mp fits
  rw [phase] at passes
  have write : r.kind = .write := by cases kind : r.kind <;> simp [kind, RequestKind.passes] at passes ⊢
  refine .ofRequestWork work (Nat.min_le_left _ _) nofun (by rw [write]; rfl) nofun owed ⟨fun _ => ⟨write, rfl⟩, fun _ => rfl⟩

/-! ### Orderly ends and withdrawals (R121, R123) -/

theorem Transaction.orderlyEnd_cases (t : Transaction) :
    (∃ o, t.orderlyEnd = { t with phase := .stopping, out := o }) ∧ (t.phase = .writeWait ∨ t.phase = .ackHold) ∨
      t.orderlyEnd = t ∧ t.phase ≠ .writeWait ∧ t.phase ≠ .ackHold := by
  cases phase : t.phase <;> simp [Transaction.orderlyEnd, phase]

theorem Transaction.Fits.ended (fits : t.Fits) (work : t.work = .request r) : t.orderlyEnd.Fits := by
  obtain ⟨position, -, -, -, owed, answer⟩ := (Transaction.fits_request work).mp fits
  rcases t.orderlyEnd_cases with ⟨⟨o, stopped⟩, phase⟩ | ⟨same, -⟩
  · rw [stopped]
    refine .ofRequestWork work position nofun r.kind.passes_stopping nofun owed ?_
    rcases phase with h | h <;> simpa [Phase.beforeAnswer, h] using answer
  · rw [same]
    exact fits

/-- A withdrawn request's transaction; only an unanswered write byte may owe an entry (R59). -/
theorem Transaction.Fits.detached (fits : t.Fits) (work : t.work = .request r) {owed : Bool}
    (owes : owed = true → t.unanswered = true) :
    Transaction.Fits { t.orderlyEnd with work := .detached r, entryOwed := owed } := by
  obtain ⟨position, address, passes, -, -, answer⟩ := (Transaction.fits_request work).mp fits
  rcases t.orderlyEnd_cases with ⟨⟨o, stopped⟩, phase⟩ | ⟨same, phase⟩
  · rw [stopped]
    exact .ofDetachedWork rfl position nofun r.kind.passes_stopping nofun nofun (fun h => (answer.mp h).1) owes
  · rw [same]
    exact .ofDetachedWork rfl position address passes phase.1 phase.2 (fun h => (answer.mp h).1) owes

/-- A withdrawn request's transaction goes to P. -/
theorem Transaction.Fits.detachedStopped (fits : t.Fits) (work : t.work = .detached r) (refused : Bool) (o : SegOut) :
    Transaction.Fits { t with phase := .stopping, refused := refused, out := o } := by
  obtain ⟨position, -, -, -, -, write, owes⟩ := (Transaction.fits_detached work).mp fits
  exact .ofDetachedWork work position nofun r.kind.passes_stopping nofun nofun write owes

/-- The late outcome of a withdrawn write byte (R59, R123). -/
theorem Transaction.Fits.detachedAnswered (fits : t.Fits) (work : t.work = .detached r) (refused : Bool) :
    Transaction.Fits { t.stopWith refused with unanswered := false, entryOwed := false } := by
  obtain ⟨position, -⟩ := (Transaction.fits_detached work).mp fits
  exact .ofDetachedWork work position nofun r.kind.passes_stopping nofun nofun nofun nofun

/-- A withdrawn read reads one byte more (R121). -/
theorem Transaction.Fits.detachedReads (fits : t.Fits) (work : t.work = .detached r) (turning : t.Turning r) : t.read.Fits := by
  obtain ⟨position, -, -, -, -, write, owes⟩ := (Transaction.fits_detached work).mp fits
  refine .ofDetachedWork work position nofun ?_ nofun nofun write owes
  cases kind : r.kind with
  | write => exact absurd kind turning.2
  | _ => rfl

end Sys2Proof.Machine
end

section
/-! PROOFS. The segments: one predicate for what the list, the engine and the commit mark of a segment have to do with each other (R80,
R87, R97, R102, R103, R156), and the operations that keep it for every segment, with Pending true (R10). -/

namespace Sys2Proof.Machine

variable {s t : State} {g : Seg} {a : Tables} {inc : Slot → Byte} {l : List Record} {m : EngineMode} {mark : Bool}

/-! ### One segment -/

/-- The active tables lead a slot to a target. -/
def Tables.Targets (a : Tables) (i : Slot) (g : Seg) (pa : Addr) : Prop :=
  a.routes[i].valid = true ∧ a.routes[i].segment = g ∧ a.routes[i].paddr = pa

/-- What a list of records is whatever its engine does (R80, R87, R93). -/
structure Queue (a : Tables) (inc : Slot → Byte) (g : Seg) (l : List Record) : Prop where
  listed : ∀ r ∈ l, r.segment = g ∧ r.state ≠ .opened
  behind : ∀ r ∈ l.tail, r.state = .queued
  named : ∀ r ∈ l, r.incarnation = inc r.slot → a.Targets r.slot r.segment r.paddr

/-- What an engine's state holds fits (R105, R121, R140). -/
def EngineMode.Fits (m : EngineMode) : Prop :=
  match m with
  | .busy t => t.Fits
  | .recovery p =>
    p.pulses ≤ Config.recoveryPulses ∧ (p.step = .opening → p.pulses = 0) ∧ (p.step = .pulse → p.pulses < Config.recoveryPulses)
  | _ => True

/-- The list, the engine state and the commit mark of a segment agree. -/
structure Segment (a : Tables) (inc : Slot → Byte) (g : Seg) (l : List Record) (m : EngineMode) (mark : Bool) : Prop where
  queue : Queue a inc g l
  head : m.deliversRecord = true ↔ ∃ r ∈ l.head?, r.state = .inFlight
  out : m.outOfService = true → l = []
  marked : mark = true → m.isBusy = true
  route : ∀ r ∈ m.request, r.segment = g ∧ (mark = false → a.Targets r.slot r.segment r.paddr)
  fits : m.Fits

/-- The incarnations of the slots (R10). -/
def State.incarnations (s : State) (i : Slot) : Byte := (s.slotRuntime i).incarnation

/-- A segment of a state. -/
def State.SegmentOk (s : State) (g : Seg) : Prop :=
  Segment s.active s.incarnations g (s.list g) (s.engine g).mode (s.commitMark g)

/-- Every segment agrees with itself, and Pending is true. -/
structure State.Down (s : State) : Prop where
  segment : ∀ g, s.SegmentOk g
  pending : s.PendingOk

/-- A list that starts with no IN_FLIGHT record. -/
def Calm (l : List Record) : Prop := ∀ r ∈ l.head?, r.state ≠ .inFlight

theorem Queue.nil : Queue a inc g [] := ⟨nofun, nofun, nofun⟩

/-- What is left behind a head. -/
theorem Queue.behindHead {r : Record} {rest k : List Record} (q : Queue a inc g (r :: rest)) (sub : k.Sublist rest) :
    Queue a inc g k ∧ Calm k := by
  have queued : ∀ x ∈ k, x.state = .queued := fun x member => q.behind x (sub.subset member)
  have old : ∀ x ∈ k, x ∈ r :: rest := fun x member => List.mem_cons_of_mem r (sub.subset member)
  refine ⟨⟨fun x h => q.listed x (old x h), fun x h => queued x (List.mem_of_mem_tail h), fun x h => q.named x (old x h)⟩,
    fun x member => ?_⟩
  rw [queued x (List.mem_of_mem_head? member)]
  nofun

/-- A head that only moves on in its delivery (R88, R90, R91). -/
theorem Queue.headMoves {r : Record} {rest : List Record} (q : Queue a inc g (r :: rest)) {u : RecordState} (n : Nat)
    (listed : u ≠ .opened) : Queue a inc g ({ r with state := u, attempts := n } :: rest) where
  listed x member := by
    rcases List.mem_cons.mp member with rfl | old
    · exact ⟨(q.listed r List.mem_cons_self).1, listed⟩
    · exact q.listed x (List.mem_cons_of_mem r old)
  behind := q.behind
  named x member := by
    rcases List.mem_cons.mp member with rfl | old
    · exact q.named r List.mem_cons_self
    · exact q.named x (List.mem_cons_of_mem r old)

/-- A record joins at the tail (R85). -/
theorem Queue.joined (q : Queue a inc g l) {r : Record} (own : r.segment = g)
    (named : r.incarnation = inc r.slot → a.Targets r.slot r.segment r.paddr) :
    Queue a inc g (l ++ [{ r with state := .queued }]) where
  listed x member := by
    rcases List.mem_append.mp member with old | new
    · exact q.listed x old
    · cases List.mem_singleton.mp new
      exact ⟨own, nofun⟩
  behind x member := by
    cases l with
    | nil => cases member
    | cons y rest =>
      rcases List.mem_append.mp member with old | new
      · exact q.behind x old
      · cases List.mem_singleton.mp new
        rfl
  named x member := by
    rcases List.mem_append.mp member with old | new
    · exact q.named x old
    · cases List.mem_singleton.mp new
      exact named

theorem EngineMode.delivers_eq (t : Transaction) :
    (EngineMode.busy t).deliversRecord = (EngineMode.busy t).request.isNone := by
  simp only [EngineMode.deliversRecord, EngineMode.request]
  cases t.work <;> rfl

theorem EngineMode.request_of {t : Transaction} {r : Request} (work : t.work = .request r ∨ t.work = .detached r) :
    (EngineMode.busy t).request = some r := by
  rcases work with work | work <;> simp only [EngineMode.request, work]

theorem EngineMode.request_record {t : Transaction} (work : t.work = .record) : (EngineMode.busy t).request = none := by
  simp only [EngineMode.request, work]

/-- A BUSY engine's transaction goes on, with the same request or record. -/
theorem Segment.goesOn {x y : Transaction} (h : Segment a inc g l (.busy x) mark)
    (same : (EngineMode.busy y).request = (EngineMode.busy x).request) (fits : y.Fits) : Segment a inc g l (.busy y) mark where
  queue := h.queue
  head := by rw [EngineMode.delivers_eq, same, ← EngineMode.delivers_eq]; exact h.head
  out := nofun
  marked _ := rfl
  route := by rw [same]; exact h.route
  fits := fits

/-- An engine that is at rest, in service or with an empty list. -/
theorem Segment.atRest (queue : Queue a inc g l) (calm : Calm l) (fits : m.Fits) (rest : m.isBusy = false)
    (service : m.outOfService = true → l = []) : Segment a inc g l m false where
  queue := queue
  head := by
    refine ⟨fun delivers => ?_, fun ⟨r, member, flying⟩ => absurd flying (calm r member)⟩
    cases m with
    | busy => cases rest
    | _ => cases delivers
  out := service
  marked := nofun
  route r member := by
    cases m with
    | busy => cases rest
    | _ => cases member
  fits := fits

theorem Segment.calm (h : Segment a inc g l m mark) (other : m.deliversRecord = false) : Calm l := by
  intro r member flying
  rw [h.head.mpr ⟨r, member, flying⟩] at other
  cases other

/-- At rest there is no mark. -/
theorem Segment.unmarked (h : Segment a inc g l m mark) (rest : m.isBusy = false) : mark = false :=
  Bool.eq_false_iff.mpr fun set => by rw [h.marked set] at rest; cases rest

/-- An IDLE engine takes a request of an active route (R112). -/
theorem Segment.takesRequest (h : Segment a inc g l .idle mark) {r : Request} (own : r.segment = g)
    (targets : a.Targets r.slot r.segment r.paddr) : Segment a inc g l (.busy (Transaction.ofRequest r)) mark where
  queue := h.queue
  head := ⟨nofun, fun ⟨x, member, flying⟩ => absurd flying (h.calm rfl x member)⟩
  out := nofun
  marked _ := rfl
  route x member := by
    cases member
    exact ⟨own, fun _ => targets⟩
  fits := Transaction.fits_ofRequest r

/-- An IDLE engine takes the head (R88, R112). -/
theorem Segment.takesHead {r : Record} {rest : List Record} (h : Segment a inc g (r :: rest) .idle mark) (n : Nat) :
    Segment a inc g ({ r with state := .inFlight, attempts := n } :: rest) (.busy Transaction.ofRecord) mark where
  queue := h.queue.headMoves n nofun
  head := ⟨fun _ => ⟨_, rfl, rfl⟩, fun _ => rfl⟩
  out := nofun
  marked _ := rfl
  route := nofun
  fits := Transaction.fits_ofRecord

/-! ### All of them -/

theorem State.Touches.segment (h : s.Touches t g) {k : Seg} (other : k ≠ g) (ok : s.SegmentOk k) : t.SegmentOk k := by
  unfold State.SegmentOk
  rw [h.active, h.list k other, h.engine k other, h.mark k other, show t.incarnations = s.incarnations from funext h.incarnation]
  exact ok

namespace State.Down

/-- One segment changes. -/
theorem update (down : s.Down) (touches : s.Touches t g) (own : t.SegmentOk g) (pending : t.PendingOk) : t.Down := by
  refine ⟨fun k => ?_, pending⟩
  by_cases equal : k = g
  · exact equal ▸ own
  · exact touches.segment equal (down.segment k)

end State.Down

/-- Pending is about the lists, the incarnations and the counts (R10). -/
theorem State.PendingOk.keep (h : s.PendingOk) (listed : ∀ i, t.listed i (s.incarnations i) = s.listed i (s.incarnations i))
    (runtime : ∀ i, (t.slotRuntime i).incarnation = (s.slotRuntime i).incarnation ∧
      (t.slotRuntime i).pending = (s.slotRuntime i).pending) : t.PendingOk := by
  intro i
  rw [(runtime i).1, (runtime i).2]
  exact (h i).trans (listed i).symm

theorem State.PendingOk.same (h : s.PendingOk) (e : t.lists = s.lists ∧ t.runtime = s.runtime) : t.PendingOk :=
  h.keep (fun i => by simp only [State.listed, e.1]) fun i => by simp only [State.slotRuntime, e.2, and_self]

/-- A list is written with one that counts the same. -/
theorem State.PendingOk.setList (h : s.PendingOk) {l : List Record}
    (same : ∀ i b, l.countP (·.belongs i b) = (s.list g).countP (·.belongs i b)) : (s.setList g l).PendingOk := by
  refine h.keep (fun i => ?_) fun _ => ⟨rfl, rfl⟩
  have sum := s.sumLists_setList g l (·.countP (·.belongs i (s.incarnations i)))
  rw [State.listed_eq, State.listed_eq]
  have := same i (s.incarnations i)
  omega

theorem countP_headMoves (r : Record) (rest : List Record) (u : RecordState) (n : Nat) (i : Slot) (b : Byte) :
    ({ r with state := u, attempts := n } :: rest).countP (·.belongs i b) = (r :: rest).countP (·.belongs i b) := by
  rw [List.countP_cons, List.countP_cons]
  rfl

/-- An IDLE engine takes the waiting request of its segment, or its QUEUED head, or nothing (R111, R112). -/
theorem State.arbiter_cases (s : State) (g : Seg) :
    (∃ c r, (s.engine g).mode = .idle ∧ s.context = some c ∧ c.request = .waiting r ∧ r.segment = g ∧
      s.arbiter g = { s.setMode g (.busy (Transaction.ofRequest r)) with context := some { c with request := .taken } }) ∨
    (∃ r rest, (s.engine g).mode = .idle ∧ s.list g = r :: rest ∧ r.state = .queued ∧
      s.arbiter g =
        (s.setList g ({ r with state := .inFlight, attempts := r.attempts + 1 } :: rest)).setMode g (.busy Transaction.ofRecord)) ∨
    s.arbiter g = s := by
  unfold State.arbiter
  split
  next idle =>
    split
    next r unblocked =>
      unfold State.unblockedRequest at unblocked
      split at unblocked
      next c opened =>
        split at unblocked
        next x waiting =>
          split at unblocked
          next free =>
            cases unblocked
            refine .inl ⟨c, r, idle, opened, waiting, beq_iff_eq.mp (Bool.and_eq_true_iff.mp free).1, ?_⟩
            simp only [State.onContext, State.setMode_context, opened, Option.map_some]
          next => cases unblocked
        next => cases unblocked
      next => cases unblocked
    next =>
      split
      next r rest list =>
        split
        next queued => exact .inr (.inl ⟨r, rest, idle, list, queued, rfl⟩)
        next => exact .inr (.inr rfl)
      next => exact .inr (.inr rfl)
  next => exact .inr (.inr rfl)

namespace State.Down

/-- None of the items changes: at each segment nothing is touched but what another one, the next, has. -/
theorem same (down : s.Down)
    (e : t.active = s.active ∧ t.runtime = s.runtime ∧ t.lists = s.lists ∧ t.engines = s.engines ∧ t.commitMarks = s.commitMarks) :
    t.Down := by
  obtain ⟨active, runtime, lists, engines, marks⟩ := e
  refine ⟨fun k => ?_, down.pending.same ⟨lists, runtime⟩⟩
  have touches : s.Touches t (k + 1) := .same ⟨active, runtime, lists, engines, marks⟩
  exact touches.segment (by fin_cases k <;> decide) (down.segment k)

/-- Only Pointers change. -/
theorem setPointer (down : s.Down) (i : Slot) (p : Option Word16) : (s.setPointer i p).Down := by
  have runtime (j : Slot) : ((s.setPointer i p).slotRuntime j).incarnation = (s.slotRuntime j).incarnation ∧
      ((s.setPointer i p).slotRuntime j).pending = (s.slotRuntime j).pending := by
    rw [State.slotRuntime_setPointer]
    split
    next equal => rw [equal]; exact ⟨rfl, rfl⟩
    next => exact ⟨rfl, rfl⟩
  exact ⟨fun k => (s.touches_setPointer (k + 1) i p).segment (by fin_cases k <;> decide) (down.segment k),
    down.pending.keep (fun _ => rfl) runtime⟩

theorem ite {u : State} {p : Prop} [Decidable p] (h : p → t.Down) (k : ¬p → u.Down) : (if p then t else u).Down := by
  split
  next yes => exact h yes
  next no => exact k no

variable (down : s.Down)

include down

theorem countByte (c : Context) : (s.countByte c).Down := by
  rw [State.countByte_eq]
  have counted : ({ s with context := some c.counted } : State).Down := down.same ⟨rfl, rfl, rfl, rfl, rfl⟩
  exact .ite (fun _ => counted.setPointer _ _) fun _ => counted

theorem acceptPosted (c : Context) (r : Record) (b : Byte) : (s.acceptPosted c r b).Down := by
  unfold State.acceptPosted
  refine Down.countByte ?_ c
  split
  · exact down.same ⟨rfl, rfl, rfl, rfl, rfl⟩
  · exact down.same ⟨rfl, rfl, rfl, rfl, rfl⟩

theorem grantRecord : s.grantRecord.Down := by
  unfold State.grantRecord
  split
  · exact .ite (fun _ => acceptPosted (s := { s with recordRequest := none }) (down.same ⟨rfl, rfl, rfl, rfl, rfl⟩) _ _ _)
      fun _ => down
  · exact down

theorem ackHeldByte : s.ackHeldByte.Down := by
  unfold State.ackHeldByte
  split
  · split
    · exact .ite (fun _ => countByte (s := { s with answer := .ack }) (down.same ⟨rfl, rfl, rfl, rfl, rfl⟩) _) fun _ => down
    · exact down
  · exact down

/-- A BUSY engine's transaction goes on. -/
theorem goesOn {x y : Transaction} (mode : (s.engine g).mode = .busy x)
    (same : (EngineMode.busy y).request = (EngineMode.busy x).request) (fits : y.Fits) : (s.setBusy g y).Down := by
  refine down.update (s.touches_setBusy g y) ?_ (down.pending.same ⟨rfl, rfl⟩)
  have own := down.segment g
  unfold State.SegmentOk at own ⊢
  rw [mode] at own
  rw [State.engine_setBusy, if_pos rfl]
  exact own.goesOn same fits

theorem fits {x : Transaction} (mode : (s.engine g).mode = .busy x) : x.Fits := by
  have := (down.segment g).fits
  rwa [mode] at this

theorem detachEngine (g : Seg) {owed : Bool}
    (owes : owed = true → ∀ x r, (s.engine g).mode = .busy x → x.work = .request r → x.unanswered = true) :
    (s.detachEngine g owed).Down := by
  unfold State.detachEngine
  split
  next x mode =>
    split
    next r work =>
      refine down.goesOn mode ?_ ((down.fits mode).detached work fun h => owes h x r mode work)
      rw [EngineMode.request_of (.inl work), EngineMode.request_of (r := r) (.inr rfl)]
    next => exact down
  next => exact down

theorem endEngine (g : Seg) : (s.endEngine g).Down := by
  unfold State.endEngine
  split
  next x mode =>
    split
    next r work =>
      refine down.goesOn mode ?_ ((down.fits mode).ended work)
      rcases x.orderlyEnd_cases with ⟨⟨o, ended⟩, -⟩ | ⟨ended, -⟩
      · rw [ended]; rfl
      · rw [ended]
    next => exact down
  next => exact down

/-- A waiting request is one of an active route. -/
theorem arbiter (g : Seg) (targets : ∀ c r, s.context = some c → c.request = .waiting r → s.active.Targets r.slot r.segment r.paddr) :
    (s.arbiter g).Down := by
  have own := down.segment g
  unfold State.SegmentOk at own
  rcases s.arbiter_cases g with ⟨c, r, idle, opened, waiting, segment, takes⟩ | ⟨r, rest, idle, list, queued, takes⟩ | same
  · rw [takes]
    rw [idle] at own
    refine Down.same (s := s.setMode g (.busy (Transaction.ofRequest r)))
      (down.update (s.touches_setMode g _) ?_ (down.pending.same ⟨rfl, rfl⟩)) ⟨rfl, rfl, rfl, rfl, rfl⟩
    unfold State.SegmentOk
    rw [State.engine_setMode_self]
    exact own.takesRequest segment (targets c r opened waiting)
  · rw [takes]
    rw [idle, list] at own
    refine down.update ((s.touches_setList g _).trans (State.touches_setMode _ _ _)) ?_ ?_
    · unfold State.SegmentOk
      rw [State.engine_setMode_self]
      change Segment _ _ _ ((s.setList g _).list g) _ _
      rw [State.list_setList_self]
      exact own.takesHead _
    · exact (down.pending.setList (by rw [list]; exact countP_headMoves r rest _ _)).same ⟨rfl, rfl⟩
  · rw [same]
    exact down

/-- An engine comes to rest: its list starts calm. -/
theorem leaves (m : EngineMode) (calm : Calm (s.list g)) (fits : m.Fits) (rest : m.isBusy = false)
    (service : m.outOfService = true → s.list g = []) : (s.leaveBusy g m).Down := by
  refine down.update (s.touches_leaveBusy g m) ?_ (down.pending.same ⟨rfl, rfl⟩)
  unfold State.SegmentOk
  rw [State.engine_leaveBusy, if_pos rfl, State.commitMark_leaveBusy, if_pos rfl]
  exact .atRest (down.segment g).queue calm fits rest service

/-- An engine at rest changes its state. -/
theorem setMode {m : EngineMode} (before : (s.engine g).mode.isBusy = false) (fits : m.Fits) (rest : m.isBusy = false)
    (service : m.outOfService = true → s.list g = []) : (s.setMode g m).Down := by
  refine down.update (s.touches_setMode g m) ?_ (down.pending.same ⟨rfl, rfl⟩)
  have own := down.segment g
  unfold State.SegmentOk at own ⊢
  have calm : Calm (s.list g) := own.calm (by cases mode : (s.engine g).mode <;> simp_all [EngineMode.isBusy, EngineMode.deliversRecord])
  rw [State.engine_setMode_self, show (s.setMode g m).commitMark g = false from own.unmarked before]
  exact .atRest own.queue calm fits rest service

theorem placed : s.Placed :=
  fun h x member => ⟨((down.segment h).queue.listed x member).1, fun current => ((down.segment h).queue.named x member current).2.1⟩

end State.Down

end Sys2Proof.Machine
end

section
/-! PROOFS. The fates of records, as the segments and Pending see them: delivery, retry, failure, discard and queueing (R10, R85, R89 to
R97). -/

namespace Sys2Proof.Machine

variable {s t : State} {g : Seg} {r : Record} {rest : List Record}

/-! ### Counts of listed records (R10) -/

theorem State.listed_setList (s : State) (g : Seg) (l : List Record) (i : Slot) (b : Byte) :
    (s.setList g l).listed i b + (s.list g).countP (·.belongs i b) = s.listed i b + l.countP (·.belongs i b) := by
  rw [State.listed_eq, State.listed_eq]
  exact s.sumLists_setList g l (·.countP (·.belongs i b))

theorem Record.belongs_iff (r : Record) (i : Slot) (b : Byte) : r.belongs i b = true ↔ r.slot = i ∧ r.incarnation = b := by
  simp [Record.belongs]

/-- The head taken off counts for its own slot and incarnation alone. -/
theorem State.listed_headOff (list : s.list g = r :: rest) (i : Slot) (b : Byte) :
    (s.setList g rest).listed i b + (if r.belongs i b then 1 else 0) = s.listed i b := by
  have := s.listed_setList g rest i b
  rw [list, List.countP_cons] at this
  omega

/-- The other records of a failed one's slot and incarnation are gone (R93). -/
theorem State.listed_routeFailed (s : State) (r : Record) (i : Slot) (b : Byte) :
    (s.routeFailed r).listed i b = if r.belongs i b then 0 else s.listed i b := by
  have each (l : List Record) :
      (l.filter fun x => !(x.slot == r.slot && x.incarnation == r.incarnation)).countP (·.belongs i b) =
        if r.belongs i b then 0 else l.countP (·.belongs i b) := by
    rw [List.countP_filter]
    split
    next own =>
      obtain ⟨slot, incarnation⟩ := (r.belongs_iff i b).mp own
      rw [List.countP_eq_zero]
      intro x _
      simp [Record.belongs, slot, incarnation]
    next other =>
      refine List.countP_congr fun x _ => ?_
      simp only [Record.belongs, Bool.and_eq_true, beq_iff_eq, Bool.not_eq_true', Bool.and_eq_false_iff, beq_eq_false_iff_ne] at other ⊢
      grind
  rw [State.listed_eq, State.listed_eq, State.sumLists, State.sumLists]
  simp only [State.list_routeFailed, each]
  split <;> rfl

/-! ### Pending (R10, R85, R89, R93, R97) -/

/-- Pending is true of the state with a list's head taken off, but for the head itself. -/
theorem State.PendingOk.headOff (h : s.PendingOk) (list : s.list g = r :: rest) (i : Slot) :
    (s.slotRuntime i).pending =
      (s.setList g rest).listed i (s.slotRuntime i).incarnation + if r.belongs i (s.slotRuntime i).incarnation then 1 else 0 :=
  (h i).trans (State.listed_headOff list i _).symm

theorem State.PendingOk.recordSuccess (h : s.PendingOk) (list : s.list g = r :: rest) : (s.recordSuccess g r rest).PendingOk := by
  unfold State.recordSuccess
  dsimp only
  split
  next current =>
    rw [beq_iff_eq] at current
    change (s.slotRuntime r.slot).incarnation = r.incarnation at current
    intro i
    have taken := h.headOff list i
    rw [State.slotRuntime_setRuntime]
    change _ = (s.setList g rest).listed i _
    split
    next equal =>
      subst equal
      rw [if_pos ((r.belongs_iff _ _).mpr ⟨rfl, current.symm⟩)] at taken
      change (s.slotRuntime r.slot).pending - 1 = (s.setList g rest).listed r.slot (s.slotRuntime r.slot).incarnation
      omega
    next other =>
      rw [if_neg fun own => other ((r.belongs_iff _ _).mp own).1] at taken
      exact taken
  next old =>
    rw [beq_iff_eq] at old
    intro i
    have taken := h.headOff list i
    rw [if_neg fun own => old (by obtain ⟨rfl, incarnation⟩ := (r.belongs_iff _ _).mp own; exact incarnation.symm)] at taken
    exact taken

theorem State.PendingOk.afterFailure (h : s.PendingOk) (list : s.list g = r :: rest) (kind : Kind) (i : Option Word16) (a : Byte)
    (f : Bool) : ((s.setList g rest).afterFailure r kind i a f).PendingOk := by
  unfold State.afterFailure
  split
  next current =>
    refine State.PendingOk.same (s := (s.setList g rest).routeFailed r) (fun j => ?_) (by simp)
    have taken := h.headOff list j
    rw [State.slotRuntime_routeFailed, State.listed_routeFailed]
    change (s.slotRuntime r.slot).incarnation = r.incarnation at current
    change (if r.slot = j then _ else s.slotRuntime j).pending = _
    split
    next equal =>
      subst equal
      exact (if_pos ((r.belongs_iff _ _).mpr ⟨rfl, current.symm⟩)).symm
    next other =>
      have apart : ¬r.belongs j (s.slotRuntime j).incarnation = true := fun own => other ((r.belongs_iff _ _).mp own).1
      rw [if_neg apart] at taken
      exact taken.trans (if_neg apart).symm
  next old =>
    refine State.PendingOk.same (s := s.setList g rest) (fun j => ?_) (by simp)
    have taken := h.headOff list j
    rw [if_neg fun own => old (by obtain ⟨rfl, incarnation⟩ := (r.belongs_iff _ _).mp own; exact incarnation.symm)] at taken
    exact taken

theorem State.listed_discarded (s : State) (g : Seg) (cause : Byte) (i : Slot) (b : Byte) :
    (s.discarded g cause).listed i b + (s.list g).countP (·.belongs i b) = s.listed i b := by
  have emptied : (s.discarded g cause).listed i b = (s.setList g []).listed i b := by
    rw [State.listed_eq, State.listed_eq, State.sumLists, State.sumLists]
    simp only [State.list_discarded, State.list_setList]
  rw [emptied]
  exact (s.listed_setList g [] i b).trans (by simp)

theorem State.PendingOk.discarded (h : s.PendingOk) (g : Seg) (cause : Byte) : (s.discarded g cause).PendingOk := by
  intro i
  have sum := s.listed_discarded g cause i (s.slotRuntime i).incarnation
  have before := h i
  rw [State.slotRuntime_discarded]
  dsimp only
  omega

/-! ### The segments -/

namespace State.Down

variable (down : s.Down)

include down

/-- The head is gone, and with it perhaps others, and its engine comes to rest (R89, R92, R133). -/
theorem headGone {u : State} (list : s.list g = r :: rest) (touches : s.Touches u g) (sub : (u.list g).Sublist rest)
    (pending : u.PendingOk) {m : EngineMode} (fits : m.Fits) (quiet : m.isBusy = false) (service : m.outOfService = false) :
    (u.leaveBusy g m).Down := by
  have own := (down.segment g).queue
  rw [list] at own
  obtain ⟨queue, calm⟩ := own.behindHead sub
  have left := touches.trans (u.touches_leaveBusy g m)
  refine down.update left ?_ (pending.same ⟨rfl, rfl⟩)
  unfold State.SegmentOk
  rw [left.active, show (u.leaveBusy g m).incarnations = s.incarnations from funext left.incarnation, State.engine_leaveBusy,
    if_pos rfl, State.commitMark_leaveBusy, if_pos rfl]
  exact .atRest queue calm fits quiet fun out => by rw [service] at out; cases out

theorem recordSuccess (list : s.list g = r :: rest) : ((s.recordSuccess g r rest).leaveBusy g .idle).Down := by
  refine down.headGone list (s.touches_recordSuccess g r rest) ?_ (down.pending.recordSuccess list) trivial rfl rfl
  have same : (s.recordSuccess g r rest).list g = (s.setList g rest).list g := by
    unfold State.recordSuccess
    dsimp only
    split <;> rfl
  rw [same, State.list_setList_self]

theorem afterFailure (list : s.list g = r :: rest) (kind : Kind) (i : Option Word16) (a : Byte) (f : Bool) {m : EngineMode}
    (fits : m.Fits) (quiet : m.isBusy = false) (service : m.outOfService = false) :
    (((s.setList g rest).afterFailure r kind i a f).leaveBusy g m).Down := by
  have gathers : s.Gathers g r := down.placed.gathers (by rw [list]; exact List.mem_cons_self)
  refine down.headGone list (s.touches_headFailed g rest gathers kind i a f) ?_ (down.pending.afterFailure list kind i a f) fits quiet
    service
  have appended (u : State) (e : Entry) : (u.append e).list g = u.list g := by simp [State.list]
  unfold State.afterFailure
  split
  · rw [appended, State.list_routeFailed, State.list_setList_self]
    exact List.filter_sublist
  · rw [appended]
    change ((s.setList g rest).list g).Sublist rest
    rw [State.list_setList_self]

/-- The head waits for its retry gap (R90). -/
theorem headRetries (list : s.list g = r :: rest) : ((s.setList g ({ r with state := .retryWait } :: rest)).leaveBusy g .idle).Down := by
  have own := (down.segment g).queue
  rw [list] at own
  have left := (s.touches_setList g ({ r with state := .retryWait } :: rest)).trans (State.touches_leaveBusy _ g .idle)
  refine down.update left ?_ ?_
  · unfold State.SegmentOk
    rw [State.engine_leaveBusy, if_pos rfl, State.commitMark_leaveBusy, if_pos rfl]
    change Segment s.active s.incarnations g ((s.setList g _).list g) _ _
    rw [State.list_setList_self]
    exact .atRest (own.headMoves r.attempts nofun) (fun x member => by cases member; nofun) trivial rfl nofun
  · exact (down.pending.setList (by rw [list]; exact countP_headMoves r rest _ r.attempts)).same ⟨rfl, rfl⟩

/-- The head has waited (R91). -/
theorem headWaited (list : s.list g = r :: rest) (waits : r.state = .retryWait) :
    (s.setList g ({ r with state := .queued } :: rest)).Down := by
  have own := down.segment g
  unfold State.SegmentOk at own
  rw [list] at own
  refine down.update (s.touches_setList g _) ?_ (down.pending.setList (by rw [list]; exact countP_headMoves r rest _ r.attempts))
  unfold State.SegmentOk
  rw [State.list_setList_self]
  refine ⟨own.queue.headMoves r.attempts nofun, ⟨fun delivers => ?_, fun ⟨x, member, flying⟩ => ?_⟩, fun out => ?_, own.marked,
    own.route, own.fits⟩
  · obtain ⟨x, member, flying⟩ := own.head.mp delivers
    cases member
    rw [waits] at flying
    cases flying
  · cases member
    cases flying
  · cases own.out out

/-- The OPEN record, one of its slot's current incarnation, joins its segment's list (R85). -/
theorem joined (current : r.incarnation = (s.slotRuntime r.slot).incarnation)
    (targets : s.active.Targets r.slot r.segment r.paddr) (service : (s.engine r.segment).mode.outOfService = false) :
    ((s.setList r.segment (s.list r.segment ++ [{ r with state := .queued }])).setRuntime r.slot
      { s.slotRuntime r.slot with pending := (s.slotRuntime r.slot).pending + 1 }).Down := by
  have own := down.segment r.segment
  unfold State.SegmentOk at own
  have touches := (s.touches_setList r.segment (s.list r.segment ++ [{ r with state := .queued }])).trans
    (State.touches_setRuntime _ r.segment r.slot (r := { s.slotRuntime r.slot with pending := (s.slotRuntime r.slot).pending + 1 }) rfl)
  refine down.update touches ?_ fun i => ?_
  · unfold State.SegmentOk
    rw [show State.incarnations _ = s.incarnations from funext touches.incarnation]
    change Segment s.active s.incarnations r.segment ((s.setList r.segment _).list r.segment) (s.engine r.segment).mode
      (s.commitMark r.segment)
    rw [State.list_setList_self]
    refine ⟨own.queue.joined rfl fun _ => targets, ?_, fun out => ?_, own.marked, own.route, own.fits⟩
    · rw [own.head]
      cases s.list r.segment with
      | nil => exact ⟨nofun, fun ⟨x, member, flying⟩ => by cases member; cases flying⟩
      | cons y l => rfl
    · rw [service] at out
      cases out
  · have sum := s.listed_setList r.segment (s.list r.segment ++ [{ r with state := .queued }]) i (s.slotRuntime i).incarnation
    rw [List.countP_append, List.countP_singleton] at sum
    have before := down.pending i
    rw [State.slotRuntime_setRuntime]
    change _ = (s.setList r.segment _).listed i _
    change _ + _ = _ + (_ + if r.belongs i (s.slotRuntime i).incarnation = true then 1 else 0) at sum
    split
    next equal =>
      subst equal
      rw [if_pos ((r.belongs_iff _ _).mpr ⟨rfl, current⟩)] at sum
      dsimp only
      omega
    next other =>
      rw [if_neg fun belongs => other ((r.belongs_iff _ _).mp belongs).1] at sum
      change (s.slotRuntime i).pending = (s.setList r.segment _).listed i (s.slotRuntime i).incarnation
      omega

end State.Down

end Sys2Proof.Machine
end

section
/-! PROOFS. The port: one predicate for what the port, its context, its records and its request have to do with each other, with the engine
that carries the request (R45, R48, R55, R103, R109); the arbiter, the pool and the end of a hold keep it. -/

namespace Sys2Proof.Machine

variable {s t : State} {c d : Context} {g : Seg}

/-! ### A context on its port -/

/-- A context fits its port, its records and the byte sent, whatever the engines do. -/
structure Context.Stands (c : Context) (p : PortState) (sending : Option Byte) (o : Option Record) (a : Option Byte) : Prop where
  port : c.FitsPort p
  fits : c.Fits
  asks : a.isSome = true ↔ ∃ h ∈ c.hold, h.point = .postByte
  opened : ∀ r ∈ o, r.state = .opened ∧ p = .upWrite ∧ c.hold = none ∧ c.route.mode = .posted ∧ r.slot = c.slot ∧
    r.incarnation = c.incarnation ∧ r.segment = c.route.segment ∧ r.paddr = c.route.paddr
  makes : ∀ r, c.request = .waiting r → c.Makes r
  sent : p = .upRead → c.source = .target → c.hold = none → sending.isSome = true → c.request = .taken

/-- A context without a hold and without a request. -/
theorem Context.Fits.free (hold : c.hold = none) (absent : c.request = .absent) (write : c.direction = .write → c.source = .target)
    (follow : c.follow = true → c.route.width ≠ .raw) : c.Fits :=
  ⟨by rw [hold]; nofun, by rw [hold]; nofun, fun _ => .inl absent, fun _ other => absurd absent other, write, fun _ => absent,
    fun _ => hold, follow⟩

/-- Such a context stands where no byte of a target is being sent. -/
theorem Context.Stands.free {p : PortState} {sending : Option Byte} (port : c.FitsPort p) (hold : c.hold = none)
    (absent : c.request = .absent) (write : c.direction = .write → c.source = .target)
    (follow : c.follow = true → c.route.width ≠ .raw)
    (unsent : c.direction = .read → c.source = .target → sending.isSome = true → False) : c.Stands p sending none none := by
  refine ⟨port, .free hold absent write follow, ⟨nofun, by rw [hold]; nofun⟩, nofun, fun r waiting => ?_, fun reads target _ sent => ?_⟩
  · rw [absent] at waiting
    cases waiting
  · rw [reads] at port
    exact (unsent port.1 target sent).elim

/-- The port awaits what the engine of its request is doing; a byte of the target is sent while the engine holds it alone. -/
structure Context.Attends (c : Context) (x : Transaction) (sending : Option Byte) : Prop where
  awaits : c.Awaits x sending
  sent : c.direction = .read → c.hold = none → c.source = .target → sending.isSome = true → x.phase = .ackHold

theorem Context.Attends.write (h : c.direction = .write) {x : Transaction} {sending : Option Byte}
    (answer : x.unanswered = true ↔ c.hold.isSome = true) (waits : c.hold = none → c.refusing = false → x.phase = .writeWait) :
    c.Attends x sending := by
  refine ⟨?_, fun read => by rw [h] at read; cases read⟩
  unfold Context.Awaits
  rw [h]
  exact ⟨answer, waits⟩

theorem Context.Attends.ofWrite {x : Transaction} {sending : Option Byte} (a : c.Attends x sending) (h : c.direction = .write) :
    (x.unanswered = true ↔ c.hold.isSome = true) ∧ (c.hold = none → c.refusing = false → x.phase = .writeWait) := by
  have := a.awaits
  unfold Context.Awaits at this
  rwa [h] at this

/-- The phases in which a read holds (R54, R71, R118). -/
def Transaction.BringsByte (x : Transaction) (p : HoldPoint) : Prop :=
  x.phase = .addressing ∨ x.phase = .indexing ∨ x.phase = .restarting ∨ (x.phase = .stopping ∧ x.refused = true) ∨
    (x.phase = .reading ∧ p = .readByte)

theorem Context.Attends.hold (h : c.direction = .read) {k : Hold} (held : c.hold = some k) {x : Transaction} {sending : Option Byte}
    (brings : x.BringsByte k.point) : c.Attends x sending := by
  refine ⟨?_, fun _ free => by rw [held] at free; cases free⟩
  unfold Context.Awaits
  simp only [h, held]
  rcases brings with b | b | b | b | b
  · exact .inl (.inl b)
  · exact .inl (.inr (.inl b))
  · exact .inl (.inr (.inr (.inl b)))
  · exact .inl (.inr (.inr (.inr b)))
  · exact .inr b

theorem Context.Attends.ofHold {x : Transaction} {sending : Option Byte} (a : c.Attends x sending) (h : c.direction = .read) {k : Hold}
    (held : c.hold = some k) : x.BringsByte k.point := by
  have := a.awaits
  unfold Context.Awaits at this
  simp only [h, held] at this
  rcases this with (b | b | b | b) | b
  · exact .inl b
  · exact .inr (.inl b)
  · exact .inr (.inr (.inl b))
  · exact .inr (.inr (.inr (.inl b)))
  · exact .inr (.inr (.inr (.inr b)))

theorem Context.Attends.byte (h : c.direction = .read) (free : c.hold = none) {x : Transaction} {sending : Option Byte}
    (holds : (x.phase = .ackHold ∧ c.source = .target ∧ sending.isSome = true) ∨
      (x.phase = .stopping ∧ (c.source = .target → sending.isSome = true → False))) : c.Attends x sending := by
  refine ⟨?_, fun _ _ target sent => ?_⟩
  · unfold Context.Awaits
    simp only [h, free]
    exact holds.imp_right And.left
  · rcases holds with ⟨phase, -⟩ | ⟨-, apart⟩
    · exact phase
    · exact (apart target sent).elim

theorem Context.Attends.ofByte {x : Transaction} {sending : Option Byte} (a : c.Attends x sending) (h : c.direction = .read)
    (free : c.hold = none) : (x.phase = .ackHold ∧ c.source = .target ∧ sending.isSome = true) ∨ x.phase = .stopping := by
  have := a.awaits
  unfold Context.Awaits at this
  simpa only [h, free] using this

/-! ### The port of a state -/

/-- No engine but one carries a request. -/
def State.FreeBut (s : State) (g : Seg) : Prop := ∀ h, h ≠ g → (s.engine h).mode.carriesRequest = false

/-- No engine carries a request. -/
def State.Free (s : State) : Prop := ∀ h, (s.engine h).mode.carriesRequest = false

/-- The engine of a context's segment, and no other, carries its request. -/
structure State.Tied (s : State) (c : Context) (x : Transaction) (r : Request) : Prop where
  mode : (s.engine c.route.segment).mode = .busy x
  work : x.work = .request r
  makes : c.Makes r
  attends : c.Attends x s.sending
  others : s.FreeBut c.route.segment

/-- No routed sub-transaction is open. -/
structure State.Shut (s : State) : Prop where
  context : s.context = none
  frame : s.frame ≠ .noFrame → s.port = .upMgmtWrite
  opened : s.openRecord = none
  asks : s.recordRequest = none
  port : s.port ≠ .upIndex ∧ s.port ≠ .upWrite ∧ s.port ≠ .upRead
  free : s.Free

/-- A routed sub-transaction is open, with its context. -/
structure State.Opens (s : State) (c : Context) : Prop where
  context : s.context = some c
  frame : s.frame = .noFrame
  stands : c.Stands s.port s.sending s.openRecord s.recordRequest
  served : s.openRecord.isSome = true ∨ s.recordRequest.isSome = true → (s.engine c.route.segment).mode.outOfService = false
  engines : c.request ≠ .taken ∧ s.Free ∨ c.request = .taken ∧ ∃ x r, s.Tied c x r

/-- The port and the engines agree. -/
def State.Up (s : State) : Prop := s.Shut ∨ ∃ c, s.Opens c

theorem State.Opens.up (opens : s.Opens c) : s.Up := .inr ⟨c, opens⟩

theorem State.Up.opens (up : s.Up) (opened : s.context = some c) : s.Opens c := by
  rcases up with shut | ⟨d, opens⟩
  · rw [shut.context] at opened
    cases opened
  · rw [opens.context] at opened
    cases opened
    exact opens

theorem State.Up.shut (up : s.Up) (closed : s.context = none) : s.Shut := by
  rcases up with shut | ⟨d, opens⟩
  · exact shut
  · rw [opens.context] at closed
    cases closed

theorem EngineMode.carriesRequest_iff (m : EngineMode) :
    m.carriesRequest = true ↔ ∃ x r, m = .busy x ∧ x.work = .request r := by
  cases m with
  | busy x => cases work : x.work <;> simp [EngineMode.carriesRequest, work]
  | _ => simp [EngineMode.carriesRequest]

/-- A request that an engine carries is the context's. -/
theorem State.Up.carried (up : s.Up) {x : Transaction} {r : Request} (mode : (s.engine g).mode = .busy x)
    (work : x.work = .request r) : ∃ c, s.Opens c ∧ c.request = .taken ∧ c.route.segment = g ∧ s.Tied c x r := by
  have carries : (s.engine g).mode.carriesRequest = true := (EngineMode.carriesRequest_iff _).mpr ⟨x, r, mode, work⟩
  rcases up with shut | ⟨c, opens⟩
  · rw [shut.free g] at carries
    cases carries
  · rcases opens.engines with ⟨-, free⟩ | ⟨taken, y, q, tied⟩
    · rw [free g] at carries
      cases carries
    · have own : c.route.segment = g := by
        by_contra other
        rw [tied.others g (Ne.symm other)] at carries
        cases carries
      subst own
      have same := tied.mode.symm.trans mode
      cases same
      have request := tied.work.symm.trans work
      cases request
      exact ⟨c, opens, taken, rfl, tied⟩

section
variable {p : PortState} {sending : Option Byte} {o : Option Record} {a : Option Byte}

/-- A context with a request has no record and asks for none. -/
theorem Context.Stands.plain (stands : c.Stands p sending o a) (busy : c.request ≠ .absent) : o = none ∧ a = none := by
  obtain ⟨-, post, -, pass, -⟩ := stands.fits
  constructor
  · cases o with
    | none => rfl
    | some r =>
      obtain ⟨-, rfl, -, posted, -⟩ := stands.opened r rfl
      obtain ⟨write, -⟩ := stands.port
      rw [pass write busy] at posted
      cases posted
  · cases a with
    | none => rfl
    | some b =>
      obtain ⟨h, held, point⟩ := stands.asks.mp rfl
      exact absurd (post h held point).1 busy

theorem Context.Stands.noRecord (stands : c.Stands p sending o a) {h : Hold} (held : c.hold = some h) : o = none := by
  cases o with
  | none => rfl
  | some r =>
    obtain ⟨-, -, free, -⟩ := stands.opened r rfl
    rw [held] at free
    cases free

theorem Context.Stands.asks_none (stands : c.Stands p sending o a) (free : ∀ h, c.hold = some h → h.point ≠ .postByte) : a = none := by
  cases a with
  | none => rfl
  | some b =>
    obtain ⟨h, held, point⟩ := stands.asks.mp rfl
    exact absurd point (free h held)

/-- The port state and the direction that go with each hold point (R55). -/
theorem Context.Stands.atHold (stands : c.Stands p sending o a) {h : Hold} (held : c.hold = some h) :
    (h.point = .readAddress → p = .upAddress ∧ c.direction = .read) ∧ (h.point = .readByte → p = .upRead ∧ c.direction = .read) ∧
      (h.point = .passByte ∨ h.point = .postByte → p = .upWrite ∧ c.direction = .write) := by
  have port := stands.port
  cases p with
  | upAddress =>
    obtain ⟨read, k, other, point⟩ := port
    rw [held] at other
    cases other
    exact ⟨fun _ => ⟨rfl, read⟩, fun h => (by rw [point] at h; cases h), fun h => by rw [point] at h; rcases h with h | h <;> cases h⟩
  | upIndex =>
    obtain ⟨-, free, -⟩ := port
    rw [held] at free
    cases free
  | upWrite =>
    obtain ⟨write, points⟩ := port
    have := points h held
    exact ⟨fun k => (by rw [k] at this; rcases this with h | h <;> cases h), fun k => (by rw [k] at this; rcases this with h | h <;> cases h),
      fun _ => ⟨rfl, write⟩⟩
  | upRead =>
    obtain ⟨read, points⟩ := port
    have := points h held
    exact ⟨fun k => (by rw [k] at this; cases this), fun _ => ⟨rfl, read⟩, fun k => by rw [this] at k; rcases k with h | h <;> cases h⟩
  | _ => cases port

end

/-- A context without a record, and asking for none. -/
theorem State.Opens.bare (context : t.context = some d) (frame : t.frame = .noFrame) (opened : t.openRecord = none)
    (asks : t.recordRequest = none) (stands : d.Stands t.port t.sending none none)
    (engines : d.request ≠ .taken ∧ t.Free ∨ d.request = .taken ∧ ∃ x r, t.Tied d x r) : t.Opens d := by
  refine ⟨context, frame, by rw [opened, asks]; exact stands, fun busy => ?_, engines⟩
  rw [opened, asks] at busy
  rcases busy with h | h <;> cases h

/-! ### What changes elsewhere -/

/-- The port's items are as before. -/
@[simp] def State.SamePort (s t : State) : Prop :=
  t.port = s.port ∧ t.context = s.context ∧ t.sending = s.sending ∧ t.openRecord = s.openRecord ∧
  t.recordRequest = s.recordRequest ∧ t.frame = s.frame

theorem State.SamePort.trans {u : State} (h : s.SamePort t) (k : t.SamePort u) : s.SamePort u := by
  obtain ⟨a1, a2, a3, a4, a5, a6⟩ := h
  obtain ⟨b1, b2, b3, b4, b5, b6⟩ := k
  exact ⟨b1.trans a1, b2.trans a2, b3.trans a3, b4.trans a4, b5.trans a5, b6.trans a6⟩

/-- An engine that carries no request changes to another such state, in service where the port has a record or waits for one. -/
theorem State.Up.engine (up : s.Up) (same : s.SamePort t) (others : ∀ h, h ≠ g → t.engine h = s.engine h)
    (quiet : (s.engine g).mode.carriesRequest = false) (quiet' : (t.engine g).mode.carriesRequest = false)
    (service : ∀ c, s.Opens c → c.route.segment = g → s.openRecord.isSome = true ∨ s.recordRequest.isSome = true →
      (t.engine g).mode.outOfService = false) : t.Up := by
  obtain ⟨port, context, sending, opened, asks, frame⟩ := same
  have carries (h : Seg) : (t.engine h).mode.carriesRequest = (s.engine h).mode.carriesRequest := by
    by_cases own : h = g
    · rw [own, quiet, quiet']
    · rw [others h own]
  rcases up with shut | ⟨c, opens⟩
  · exact .inl ⟨by rw [context, shut.context], by rw [frame, port]; exact shut.frame, by rw [opened, shut.opened],
      by rw [asks, shut.asks], by rw [port]; exact shut.port, fun h => (carries h).trans (shut.free h)⟩
  · refine .inr ⟨c, by rw [context, opens.context], by rw [frame, opens.frame], by rw [port, sending, opened, asks]; exact opens.stands,
      fun busy => ?_, ?_⟩
    · rw [opened, asks] at busy
      by_cases own : c.route.segment = g
      · rw [own]
        exact service c opens own busy
      · rw [others _ own]
        exact opens.served busy
    · rcases opens.engines with ⟨free, none_⟩ | ⟨taken, x, r, tied⟩
      · exact .inl ⟨free, fun h => (carries h).trans (none_ h)⟩
      · have other : c.route.segment ≠ g := by
          intro own
          rw [← own, tied.mode] at quiet
          rw [(EngineMode.carriesRequest_iff _).mpr ⟨x, r, rfl, tied.work⟩] at quiet
          cases quiet
        exact .inr ⟨taken, x, r, by rw [others _ other]; exact tied.mode, tied.work, tied.makes, by rw [sending]; exact tied.attends,
          fun h away => (carries h).trans (tied.others h away)⟩

/-- Neither the port's items nor an engine changes. -/
theorem State.Up.same (up : s.Up) (same : s.SamePort t) (engines : t.engines = s.engines) : t.Up := by
  have engine (h : Seg) : t.engine h = s.engine h := State.engine_congr engines h
  obtain ⟨port, context, sending, opened, asks, frame⟩ := same
  rcases up with shut | ⟨c, opens⟩
  · exact .inl ⟨by rw [context, shut.context], by rw [frame, port]; exact shut.frame, by rw [opened, shut.opened],
      by rw [asks, shut.asks], by rw [port]; exact shut.port, fun h => by rw [engine]; exact shut.free h⟩
  · refine .inr ⟨c, by rw [context, opens.context], by rw [frame, opens.frame], by rw [port, sending, opened, asks]; exact opens.stands,
      fun busy => by rw [engine]; rw [opened, asks] at busy; exact opens.served busy, ?_⟩
    refine opens.engines.imp (fun ⟨free, none_⟩ => ⟨free, fun h => by rw [engine]; exact none_ h⟩) fun ⟨taken, x, r, tied⟩ =>
      ⟨taken, x, r, by rw [engine]; exact tied.mode, tied.work, tied.makes, by rw [sending]; exact tied.attends,
        fun h away => by rw [engine]; exact tied.others h away⟩

/-! ### The loss of a record (R65, R93, R99) -/

/-- The port refuses the rest of a write that loses its record. -/
def Context.loses (c : Context) (lost keep : Bool) : Context :=
  { c with refusing := c.refusing || lost, follow := c.follow && keep }

theorem Context.Stands.loses {p : PortState} {sending : Option Byte} {o : Option Record} {a : Option Byte}
    (stands : c.Stands p sending o a) (lost keep : Bool) (left : Option Record) (sub : ∀ r ∈ left, r ∈ o) :
    (c.loses lost keep).Stands p sending left a := by
  obtain ⟨hold, post, free, pass, write, cache, filler, follow⟩ := stands.fits
  refine ⟨?_, ⟨hold, post, free, pass, write, cache, filler, fun h => follow (Bool.and_eq_true_iff.mp h).1⟩, stands.asks,
    fun r member => stands.opened r (sub r member), stands.makes, stands.sent⟩
  have := stands.port
  cases p <;> exact this

theorem Context.Attends.loses {x : Transaction} {sending : Option Byte} (attends : c.Attends x sending) (lost keep : Bool) :
    (c.loses lost keep).Attends x sending := by
  cases direction : c.direction with
  | write =>
    obtain ⟨answer, waits⟩ := attends.ofWrite direction
    refine Context.Attends.write (c := c.loses lost keep) direction answer fun free refusing => waits free ?_
    exact (Bool.or_eq_false_iff.mp refusing).1
  | read =>
    refine ⟨?_, attends.sent⟩
    have := attends.awaits
    simp only [Context.Awaits, Context.loses, direction] at this ⊢
    exact this

/-- The OPEN record goes, or stays, and the context with it refuses and follows no more. -/
theorem State.Up.loses (up : s.Up) (lost keep : Context → Bool)
    (same : t.port = s.port ∧ t.sending = s.sending ∧ t.recordRequest = s.recordRequest ∧ t.frame = s.frame ∧ t.engines = s.engines)
    (context : t.context = s.context.map fun c => c.loses (lost c) (keep c)) (sub : ∀ r ∈ t.openRecord, r ∈ s.openRecord) : t.Up := by
  obtain ⟨port, sending, asks, frame, engines⟩ := same
  have engine (h : Seg) : t.engine h = s.engine h := State.engine_congr engines h
  rcases up with shut | ⟨c, opens⟩
  · refine .inl ⟨by rw [context, shut.context]; rfl, by rw [frame, port]; exact shut.frame, ?_, by rw [asks, shut.asks],
      by rw [port]; exact shut.port, fun h => by rw [engine]; exact shut.free h⟩
    cases opened : t.openRecord with
    | none => rfl
    | some r =>
      have := sub r opened
      rw [shut.opened] at this
      cases this
  · refine .inr ⟨c.loses (lost c) (keep c), by rw [context, opens.context]; rfl, by rw [frame, opens.frame], ?_, fun busy => ?_, ?_⟩
    · rw [port, sending, asks]
      exact opens.stands.loses _ _ _ sub
    · rw [engine]
      refine opens.served (busy.imp (fun h => ?_) fun h => asks ▸ h)
      obtain ⟨r, opened⟩ := Option.isSome_iff_exists.mp h
      exact Option.isSome_iff_exists.mpr ⟨r, sub r opened⟩
    · exact opens.engines.imp (fun ⟨free, none_⟩ => ⟨free, fun h => by rw [engine]; exact none_ h⟩) fun ⟨taken, x, r, tied⟩ =>
        ⟨taken, x, r, by rw [engine]; exact tied.mode, tied.work, tied.makes, by rw [sending]; exact tied.attends.loses _ _,
          fun h away => by rw [engine]; exact tied.others h away⟩

theorem State.Up.afterFailure (up : s.Up) (r : Record) (kind : Kind) (i : Option Word16) (a : Byte) (f : Bool) :
    (s.afterFailure r kind i a f).Up := by
  unfold State.afterFailure
  split
  · refine State.Up.same (s := s.routeFailed r) ?_ (by simp) (by simp)
    refine up.loses (fun _ => s.openRecord.any fun x => x.slot == r.slot && x.incarnation == r.incarnation)
      (fun c => decide (c.slot ≠ r.slot)) ⟨rfl, rfl, rfl, rfl, rfl⟩ rfl fun x member => ?_
    change x ∈ (if _ then none else s.openRecord) at member
    split at member
    · cases member
    · exact member
  · exact up.same (by simp) (by simp)

theorem State.Up.discarded (up : s.Up) (g : Seg) (cause : Byte) : (s.discarded g cause).Up := by
  refine up.loses (fun _ => s.openRecord.any fun x => x.segment == g) (fun _ => true) (by simp) ?_ fun x member => ?_
  · rw [State.context_discarded]
    simp only [Context.loses, Bool.and_true]
  · rw [State.openRecord_discarded] at member
    split at member
    · cases member
    · exact member

/-! ### The end of a hold, and of a request (R46, R58, R123) -/

/-- The hold ends without the thing held for, and no engine carries the request. -/
theorem State.Opens.holdEnds (opens : s.Opens c) {p : HoldPoint} {limit : Nat} (held : c.hold = some ⟨p, limit⟩)
    (same : (s.holdEnded c p).SamePort t) (free : t.Free) : t.Up := by
  obtain ⟨port, context, sending, opened, asks, frame⟩ := same
  have stands := opens.stands
  obtain ⟨-, -, -, -, write, -, -, follow⟩ := stands.fits
  have noRecord := stands.noRecord held
  obtain ⟨-, byte, data⟩ := stands.atHold held
  have noFrame := frame.trans ((by cases p <;> rfl : (s.holdEnded c p).frame = s.frame).trans opens.frame)
  cases p with
  | readAddress =>
    have noAsk : s.recordRequest = none := stands.asks_none fun h other => by rw [held] at other; cases other; nofun
    refine .inl ⟨context, fun open_ => absurd noFrame open_, opened.trans noRecord, asks.trans noAsk, ?_, free⟩
    rw [port]
    exact ⟨nofun, nofun, nofun⟩
  | readByte =>
    have noAsk : s.recordRequest = none := stands.asks_none fun h other => by rw [held] at other; cases other; nofun
    obtain ⟨reads, read⟩ := byte rfl
    refine (State.Opens.bare context noFrame (opened.trans noRecord) (asks.trans noAsk) ?_ (.inl ⟨nofun, free⟩)).up
    rw [port, show (s.holdEnded c .readByte).port = .upRead from reads]
    refine .free ⟨read, nofun⟩ rfl rfl (fun wrong => ?_) follow nofun
    cases read.symm.trans wrong
  | passByte | postByte =>
    obtain ⟨writes, isWrite⟩ := data (by simp)
    refine (State.Opens.bare context noFrame (opened.trans noRecord) asks ?_ (.inl ⟨nofun, free⟩)).up
    rw [port]
    change Context.Stands _ s.port _ none none
    rw [writes]
    refine .free ⟨isWrite, nofun⟩ rfl rfl write follow fun wrong => ?_
    cases isWrite.symm.trans wrong

/-- The request is over where nothing is held, and no byte of the target is being sent. -/
theorem State.Opens.requestEnds (opens : s.Opens c) (taken : c.request = .taken) (free : c.hold = none)
    (unsent : c.direction = .read → c.source = .target → s.sending.isSome = true → False)
    (same : ({ s with context := some { c with request := .absent } } : State).SamePort t) (none_ : t.Free) : t.Up := by
  obtain ⟨port, context, sending, opened, asks, frame⟩ := same
  have stands := opens.stands
  obtain ⟨-, -, -, -, write, -, -, follow⟩ := stands.fits
  obtain ⟨noRecord, noAsk⟩ := stands.plain (by rw [taken]; nofun)
  refine (State.Opens.bare context (frame.trans opens.frame) (opened.trans noRecord) (asks.trans noAsk) ?_ (.inl ⟨nofun, none_⟩)).up
  rw [port, sending]
  refine .free ?_ free rfl write follow unsent
  have fitsPort := stands.port
  change Context.FitsPort _ s.port
  cases h : s.port with
  | upIndex =>
    rw [h] at fitsPort
    exact ⟨fitsPort.1, fitsPort.2.1, rfl, fitsPort.2.2.2⟩
  | _ =>
    rw [h] at fitsPort
    exact fitsPort

/-- A hold that no engine's work answers ends at once (R60, R143). -/
theorem State.Up.failHold (up : s.Up) (free : ∀ c, s.context = some c → c.request ≠ .taken) : s.failHold.Up := by
  by_cases none_ : ∀ c, s.context = some c → c.hold = none
  · rw [State.failHold_eq_self none_]
    exact up
  · simp only [not_forall] at none_
    obtain ⟨c, opened, held⟩ := none_
    obtain ⟨⟨p, limit⟩, held⟩ := Option.ne_none_iff_exists'.mp held
    have opens := up.opens opened
    have noEngine : s.Free := by
      rcases opens.engines with ⟨-, h⟩ | ⟨taken, -⟩
      · exact h
      · exact absurd taken (free c opened)
    rw [State.failHold_eq opened held]
    refine opens.holdEnds held ⟨rfl, rfl, rfl, rfl, rfl, rfl⟩ fun h => ?_
    have same : (s.holdEnded c p).engine h = s.engine h := by cases p <;> rfl
    rw [same]
    exact noEngine h

end Sys2Proof.Machine
end

section
/-! PROOFS. The segments, the port and the addresses together, tied to the invariants of State.Ok; the arbiter, the pool and a new request
keep them. -/

namespace Sys2Proof.Machine

variable {s t : State} {c d : Context} {g : Seg} {r : Request}

/-- The segments, the port, and what is known of routes. -/
structure State.Linked (s : State) : Prop where
  down : s.Down
  up : s.Up
  addressed : s.Addressed

/-- A write waits for a record only while none is free (R82). -/
def State.Waits (s : State) : Prop := s.recordRequest.isSome = true → Config.poolSize ≤ s.inUse

/-! ### Between these and the invariants -/

theorem State.Ok.down (ok : s.Ok) : s.Down := by
  obtain ⟨-, -, -, -, -, -, -, -, ⟨-, queue⟩, -, pending, -, marks, -, routes, records, engines, -⟩ := ok
  refine ⟨fun g => ?_, pending⟩
  obtain ⟨listed, behind, head, out⟩ := queue g
  exact ⟨⟨listed, behind, fun r member => records r (State.mem_records_of_list member)⟩, head, out, marks g, routes g, engines g⟩

theorem State.Ok.addressed (ok : s.Ok) : s.Addressed := by
  obtain ⟨-, -, -, -, -, -, -, ⟨-, context⟩, -, -, -, ⟨pointer, index⟩, -, lines, -⟩ := ok
  refine ⟨pointer, fun c opened => ?_, lines⟩
  rw [Option.mem_def.mp opened] at context
  obtain ⟨-, -, route, valid, incarnation, -⟩ := context
  exact ⟨route, valid, incarnation, index c opened⟩

theorem State.Ok.up (ok : s.Ok) : s.Up := by
  obtain ⟨-, -, -, -, -, -, -, ⟨frame, context⟩, ⟨opened, -⟩, request, -, -, -, -, -, -, -, work⟩ := ok
  cases current : s.context with
  | none =>
    rw [current] at context
    obtain ⟨noRecord, noAsk, port⟩ := context
    refine .inl ⟨current, frame, noRecord, noAsk, port, fun g => Bool.eq_false_iff.mpr fun carries => ?_⟩
    obtain ⟨c, member, -⟩ := (request g).mp carries
    rw [current] at member
    cases member
  | some c =>
    rw [current] at context
    obtain ⟨fitsPort, fits, -, -, -, asks, served, record⟩ := context
    obtain ⟨makes, tied, sent⟩ := work c current
    have stands : c.Stands s.port s.sending s.openRecord s.recordRequest :=
      ⟨fitsPort, fits, asks, fun r member => ⟨(opened r member).1, record r member⟩, makes,
        fun reads target free sending => (sent reads target free sending).1⟩
    refine .inr ⟨c, current, ?_, stands, fun busy => ?_, ?_⟩
    · by_contra open_
      rw [frame open_] at fitsPort
      exact fitsPort
    · rcases busy with h | h
      · obtain ⟨r, member⟩ := Option.isSome_iff_exists.mp h
        obtain ⟨-, -, -, -, -, segment, -⟩ := record r member
        rw [← segment]
        exact (opened r member).2
      · exact (served h).1
    · by_cases taken : c.request = .taken
      · obtain ⟨x, r, mode, works⟩ := (EngineMode.carriesRequest_iff _).mp ((request c.route.segment).mpr ⟨c, current, taken, rfl⟩)
        obtain ⟨own, awaits⟩ := tied x r taken mode works
        refine .inr ⟨taken, x, r, mode, works, own, ⟨awaits, fun read free target sending => ?_⟩, fun h other =>
          Bool.eq_false_iff.mpr fun carries => ?_⟩
        · have reads : s.port = .upRead := by
            cases port : s.port <;> simp_all [Context.FitsPort]
          exact (sent reads target free sending).2 x mode
        · obtain ⟨d, member, -, segment⟩ := (request h).mp carries
          rw [current] at member
          cases member
          exact other segment.symm
      · refine .inl ⟨taken, fun h => Bool.eq_false_iff.mpr fun carries => ?_⟩
        obtain ⟨d, member, its, -⟩ := (request h).mp carries
        rw [current] at member
        cases member
        exact taken its

theorem State.Ok.linked (ok : s.Ok) : s.Linked := ⟨ok.down, ok.up, ok.addressed⟩

theorem State.Ok.waits (ok : s.Ok) : s.Waits := by
  obtain ⟨-, -, -, -, -, -, -, ⟨-, context⟩, -⟩ := ok
  intro asks
  cases current : s.context with
  | none =>
    rw [current] at context
    rw [context.2.1] at asks
    cases asks
  | some c =>
    rw [current] at context
    obtain ⟨-, -, -, -, -, -, served, -⟩ := context
    exact (served asks).2

namespace State.Linked

variable (linked : s.Linked)

include linked

theorem known (opened : s.context = some c) : s.Knows c := linked.addressed.context c opened

theorem contextOk (waits : s.Waits) : s.ContextOk := by
  rcases linked.up with shut | ⟨c, opens⟩
  · refine ⟨shut.frame, ?_⟩
    rw [shut.context]
    exact ⟨shut.opened, shut.asks, shut.port⟩
  · refine ⟨fun open_ => absurd opens.frame open_, ?_⟩
    have known := linked.known opens.context
    have stands := opens.stands
    rw [opens.context]
    exact ⟨stands.port, stands.fits, known.route, known.valid, known.incarnation, stands.asks,
      fun asks => ⟨opens.served (.inr asks), waits asks⟩, fun r member => (stands.opened r member).2⟩

/-- The OPEN record is the context's (R79, R81). -/
theorem openRecord {x : Record} (member : s.openRecord = some x) :
    ∃ c, s.Opens c ∧ x.state = .opened ∧ (s.engine x.segment).mode.outOfService = false ∧
      x.incarnation = (s.slotRuntime x.slot).incarnation ∧ s.active.Targets x.slot x.segment x.paddr := by
  rcases linked.up with shut | ⟨c, opens⟩
  · rw [shut.opened] at member
    cases member
  · obtain ⟨state, -, -, -, slot, incarnation, segment, paddr⟩ := opens.stands.opened x member
    have known := linked.known opens.context
    refine ⟨c, opens, state, ?_, by rw [incarnation, slot]; exact known.incarnation, ?_⟩
    · rw [segment]
      exact opens.served (.inl (by rw [member]; rfl))
    · have valid := known.valid
      rw [known.route] at valid
      unfold Tables.Targets
      have route : s.active.routes[x.slot] = c.route :=
        (congrArg (fun i : Slot => s.active.routes[i]) slot).trans known.route.symm
      rw [route, segment, paddr]
      exact ⟨known.valid, rfl, rfl⟩

theorem queueOk : s.QueueOk := by
  refine ⟨fun x member => ?_, fun g => ?_⟩
  · obtain ⟨-, -, state, service, -⟩ := linked.openRecord member
    exact ⟨state, service⟩
  · have own := linked.down.segment g
    exact ⟨own.queue.listed, own.queue.behind, own.head, own.out⟩

theorem recordsOk : s.RecordsOk := by
  intro x member current
  rw [State.records_eq] at member
  simp only [List.mem_append, Option.mem_toList] at member
  rcases member with (((h | h) | h) | h) | h
  · exact (linked.down.segment 0).queue.named x h current
  · exact (linked.down.segment 1).queue.named x h current
  · exact (linked.down.segment 2).queue.named x h current
  · exact (linked.down.segment 3).queue.named x h current
  · obtain ⟨-, -, -, -, -, targets⟩ := linked.openRecord h
    exact targets

theorem requestOk : s.RequestOk := by
  intro g
  constructor
  · intro carries
    obtain ⟨x, r, mode, work⟩ := (EngineMode.carriesRequest_iff _).mp carries
    obtain ⟨c, opens, taken, own, -⟩ := linked.up.carried mode work
    exact ⟨c, opens.context, taken, own⟩
  · rintro ⟨c, opened, taken, rfl⟩
    rcases (linked.up.opens opened).engines with ⟨free, -⟩ | ⟨-, x, r, tied⟩
    · exact absurd taken free
    · exact (EngineMode.carriesRequest_iff _).mpr ⟨x, r, tied.mode, tied.work⟩

theorem workOk : s.WorkOk := by
  intro c opened
  have opens := linked.up.opens opened
  refine ⟨opens.stands.makes, fun x r taken mode work => ?_, fun reads target free sent => ?_⟩
  · obtain ⟨d, other, -, -, tied⟩ := linked.up.carried mode work
    have same := opened.symm.trans other.context
    cases same
    exact ⟨tied.makes, tied.attends.awaits⟩
  · have taken := opens.stands.sent reads target free sent
    refine ⟨taken, fun x mode => ?_⟩
    rcases opens.engines with ⟨other, -⟩ | ⟨-, y, r, tied⟩
    · exact absurd taken other
    · have same := tied.mode.symm.trans mode
      cases same
      have port := opens.stands.port
      rw [reads] at port
      exact tied.attends.sent port.1 free target sent

/-- With the invariants that speak of single items these make all of State.Ok. -/
theorem ok (waits : s.Waits) (reset : s.ResetOk) (log : s.LogOk) (cache : s.CacheOk) (pool : s.PoolOk) (limits : s.LimitsOk)
    (frame : s.FrameOk) (tables : s.TablesOk) : s.Ok :=
  ⟨reset, log, cache, pool, limits, frame, tables, linked.contextOk waits, linked.queueOk, linked.requestOk, linked.down.pending,
    ⟨linked.addressed.pointer, fun _ opened => (linked.known opened).index⟩, fun g => (linked.down.segment g).marked,
    linked.addressed.lines, fun g => (linked.down.segment g).route, linked.recordsOk, fun g => (linked.down.segment g).fits, linked.workOk⟩

/-- Nothing of this changes. -/
theorem same (e : s.SamePort t ∧ t.active = s.active ∧ t.runtime = s.runtime ∧ t.lists = s.lists ∧ t.engines = s.engines ∧
    t.commitMarks = s.commitMarks ∧ t.cache = s.cache) : t.Linked := by
  obtain ⟨port, active, runtime, lists, engines, marks, cache⟩ := e
  exact ⟨linked.down.same ⟨active, runtime, lists, engines, marks⟩, linked.up.same port engines,
    linked.addressed.same ⟨active, runtime, port.2.1, cache⟩⟩

end State.Linked

theorem State.Linked.ite {u : State} {p : Prop} [Decidable p] (h : p → t.Linked) (k : ¬p → u.Linked) :
    (if p then t else u).Linked := by
  split
  next yes => exact h yes
  next no => exact k no

/-! ### The arbiter (R109 to R112) -/

/-- A waiting request becomes a taken one. -/
theorem Context.Stands.taken {p : PortState} {sending : Option Byte} {o : Option Record} {a : Option Byte}
    (stands : c.Stands p sending o a) (waiting : c.request = .waiting r) :
    ({ c with request := .taken } : Context).Stands p sending none none := by
  have busy : c.request ≠ .absent := by rw [waiting]; nofun
  obtain ⟨hold, post, free, pass, write, cache, filler, follow⟩ := stands.fits
  have held : c.hold ≠ none := by
    intro none_
    rcases free none_ with h | h <;> rw [waiting] at h <;> cases h
  have noPost : ∀ h ∈ c.hold, h.point ≠ .postByte := fun h member point => busy (post h member point).1
  refine ⟨?_, ⟨fun _ _ _ => nofun, fun h member point => absurd point (noPost h member), fun none_ => absurd none_ held,
    fun dir _ => pass dir busy, write, fun source => absurd (cache source) busy, filler, follow⟩,
    ⟨nofun, fun ⟨h, member, point⟩ => absurd point (noPost h member)⟩, nofun, nofun, fun _ _ none_ => absurd none_ held⟩
  have port := stands.port
  cases p with
  | upIndex => exact absurd port.2.1 held
  | _ => exact port

/-- An engine that has just taken a request is awaited. -/
theorem Context.Attends.fresh (makes : c.Makes r) (held : c.hold ≠ none) (sending : Option Byte) :
    c.Attends (Transaction.ofRequest r) sending := by
  obtain ⟨-, -, -, direction⟩ := makes
  cases way : c.direction with
  | write =>
    refine .write way ?_ fun none_ => absurd none_ held
    change (r.kind == .write) = true ↔ _
    simp [direction.mpr way, Option.isSome_iff_ne_none, held]
  | read =>
    obtain ⟨h, hold⟩ := Option.ne_none_iff_exists'.mp held
    exact .hold way hold (.inl rfl)

theorem State.Up.arbiter (up : s.Up) (g : Seg) : (s.arbiter g).Up := by
  rcases s.arbiter_cases g with ⟨c, r, idle, opened, waiting, segment, takes⟩ | ⟨x, rest, idle, list, queued, takes⟩ | same
  · rw [takes]
    have opens := up.opens opened
    have stands := opens.stands
    obtain ⟨noRecord, noAsk⟩ := stands.plain (by rw [waiting]; nofun)
    have makes := stands.makes r waiting
    have own : c.route.segment = g := by rw [← segment, makes.2.1]
    have held : c.hold ≠ none := by
      intro none_
      rcases stands.fits.2.2.1 none_ with h | h <;> rw [waiting] at h <;> cases h
    refine State.Opens.up (c := { c with request := .taken }) (.bare rfl opens.frame noRecord noAsk (stands.taken waiting)
      (.inr ⟨rfl, Transaction.ofRequest r, r, ?_, rfl, makes, .fresh (c := { c with request := .taken }) makes held _, ?_⟩))
    · subst own
      exact congrArg Engine.mode (State.engine_setMode_self _ _ _)
    · intro h other
      change c.route.segment = g at own
      change h ≠ c.route.segment at other
      have free : s.Free := by
        rcases opens.engines with ⟨-, free⟩ | ⟨taken, -⟩
        · exact free
        · rw [waiting] at taken
          cases taken
      change ((s.setMode g _).engine h).mode.carriesRequest = false
      rw [State.engine_setMode, if_neg fun equal => other (by rw [own, equal])]
      exact free h
  · rw [takes]
    refine up.engine (g := g) ⟨rfl, rfl, rfl, rfl, rfl, rfl⟩ (fun h other => ?_) (by rw [idle]; rfl) ?_ ?_
    · rw [State.engine_setMode, if_neg (Ne.symm other)]
      rfl
    · rw [State.engine_setMode_self]
      rfl
    · rw [State.engine_setMode_self]
      exact fun _ _ _ _ => rfl
  · rw [same]
    exact up

/-- A context's own request is one of its route. -/
theorem State.Knows.targets (known : s.Knows c) (makes : c.Makes r) : s.active.Targets r.slot r.segment r.paddr := by
  obtain ⟨slot, segment, paddr, -⟩ := makes
  have route : s.active.routes[r.slot] = c.route :=
    (congrArg (fun i : Slot => s.active.routes[i]) slot).trans known.route.symm
  unfold Tables.Targets
  rw [route, segment, paddr]
  exact ⟨known.valid, rfl, rfl⟩

theorem State.Linked.arbiter (linked : s.Linked) (g : Seg) : (s.arbiter g).Linked :=
  ⟨linked.down.arbiter g fun _ _ opened waiting =>
      (linked.known opened).targets ((linked.up.opens opened).stands.makes _ waiting),
    linked.up.arbiter g, linked.addressed.arbiter g⟩

/-- The arbiter frees no record and takes none. -/
theorem State.inUse_arbiter (s : State) (g : Seg) : (s.arbiter g).inUse = s.inUse := by
  rcases s.arbiter_cases g with ⟨c, r, -, -, -, -, takes⟩ | ⟨x, rest, -, list, -, takes⟩ | same
  · rw [takes]
    exact State.inUse_congr rfl rfl
  · rw [takes]
    have sum := s.inUse_setList g ({ x with state := .inFlight, attempts := x.attempts + 1 } :: rest)
    rw [list] at sum
    have length : (({ x with state := .inFlight, attempts := x.attempts + 1 } : Record) :: rest).length = (x :: rest).length := rfl
    have same : ((s.setList g ({ x with state := .inFlight, attempts := x.attempts + 1 } :: rest)).setMode g
        (.busy Transaction.ofRecord)).inUse = (s.setList g ({ x with state := .inFlight, attempts := x.attempts + 1 } :: rest)).inUse :=
      State.inUse_congr rfl rfl
    omega
  · rw [same]

theorem State.Waits.arbiter (waits : s.Waits) (g : Seg) : (s.arbiter g).Waits := by
  unfold State.Waits
  rw [State.inUse_arbiter, show (s.arbiter g).recordRequest = s.recordRequest by simp]
  exact waits

/-! ### Records for posted writes (R81, R82) -/

/-- A posted byte is accepted into a record of the context. -/
theorem State.Up.acceptPosted (frame : s.frame = .noFrame) (port : s.port = .upWrite) (write : c.direction = .write)
    (hold : c.hold = none) (absent : c.request = .absent) (target : c.source = .target)
    (follow : c.follow = true → c.route.width ≠ .raw) (asks : s.recordRequest = none)
    (service : (s.engine c.route.segment).mode.outOfService = false) (free : s.Free) {x : Record}
    (own : x.state = .opened ∧ c.route.mode = .posted ∧ x.slot = c.slot ∧ x.incarnation = c.incarnation ∧
      x.segment = c.route.segment ∧ x.paddr = c.route.paddr) (b : Byte) : (s.acceptPosted c x b).Up := by
  have context : (s.acceptPosted c x b).context = some c.counted := by
    unfold State.acceptPosted
    exact State.countByte_context _ c
  have engine (h : Seg) : (s.acceptPosted c x b).engine h = s.engine h := State.engine_congr (by simp) h
  have opened : (s.acceptPosted c x b).openRecord = some x := by
    unfold State.acceptPosted
    dsimp only
    split <;> simp
  obtain ⟨state, mode, slot, incarnation, segment, paddr⟩ := own
  refine .inr ⟨c.counted, context, by simpa using frame, ?_, fun _ => by rw [engine]; exact service,
    .inl ⟨by rw [Context.counted_request, absent]; nofun, fun h => by rw [engine]; exact free h⟩⟩
  rw [opened, show (s.acceptPosted c x b).recordRequest = none by simpa using asks, show (s.acceptPosted c x b).port = .upWrite by
    simpa using port]
  refine ⟨⟨write, by rw [Context.counted_hold, hold]; nofun⟩, .free hold absent (fun _ => target) follow, ⟨nofun, ?_⟩, fun y member => ?_,
    fun q waiting => ?_, nofun⟩
  · rw [Context.counted_hold, hold]
    nofun
  · cases member
    exact ⟨state, rfl, hold, mode, slot, incarnation, segment, paddr⟩
  · rw [Context.counted_request, absent] at waiting
    cases waiting

theorem State.Up.grantRecord (up : s.Up) : s.grantRecord.Up := by
  unfold State.grantRecord
  split
  next b c asked opened =>
    split
    next =>
      have opens := up.opens opened
      have stands := opens.stands
      obtain ⟨h, held, point⟩ := stands.asks.mp (by rw [asked]; rfl)
      obtain ⟨absent, posted⟩ := stands.fits.2.1 h held point
      obtain ⟨-, -, data⟩ := stands.atHold held
      obtain ⟨writes, write⟩ := data (.inr point)
      refine State.Up.acceptPosted (s := { s with recordRequest := none }) (c := { c with hold := none }) opens.frame writes write rfl
        absent (stands.fits.2.2.2.2.1 write) stands.fits.2.2.2.2.2.2.2 rfl (opens.served (.inr (by rw [asked]; rfl))) ?_
        ⟨rfl, posted, rfl, rfl, rfl, rfl⟩ b
      rcases opens.engines with ⟨-, free⟩ | ⟨taken, -⟩
      · exact free
      · rw [absent] at taken
        cases taken
    next => exact up
  next => exact up

theorem State.Linked.grantRecord (linked : s.Linked) : s.grantRecord.Linked :=
  ⟨linked.down.grantRecord, linked.up.grantRecord, linked.addressed.grantRecord⟩

/-- Afterwards a write waits only while no record is free. -/
theorem State.Up.grantRecord_waits (up : s.Up) : s.grantRecord.Waits := by
  unfold State.grantRecord
  split
  next b c asked opened =>
    split
    next =>
      intro asks
      rw [show ((({ s with recordRequest := none } : State).acceptPosted { c with hold := none }
        (openedRecord { c with hold := none } b) b).recordRequest) = none by simp] at asks
      cases asks
    next full => exact fun _ => not_lt.mp full
  next none_ =>
    intro asks
    obtain ⟨b, asked⟩ := Option.isSome_iff_exists.mp asks
    cases current : s.context with
    | none =>
      rw [(up.shut current).asks] at asked
      cases asked
    | some c => exact absurd current (none_ b c asked)

theorem State.Waits.of_none (none_ : s.recordRequest = none) : s.Waits := by
  unfold State.Waits
  rw [none_]
  nofun

/-! ### New requests (R54, R66, R71, R109) -/

/-- A request is made by a context that stands with it. -/
theorem State.Linked.makeRequest (down : s.Down) (addressed : s.Addressed) (known : s.Knows c) (frame : s.frame = .noFrame)
    (noRecord : s.openRecord = none) (noAsk : s.recordRequest = none) (free : s.Free) {p : HoldPoint}
    (stands : ({ c with request := .waiting r, hold := some ⟨p, s.holdLimit⟩ } : Context).Stands s.port s.sending none none) :
    (s.makeRequest c r p).Linked := by
  unfold State.makeRequest
  dsimp only
  have opens : ({ s with context := some { c with request := .waiting r, hold := some ⟨p, s.holdLimit⟩ } } : State).Opens
      { c with request := .waiting r, hold := some ⟨p, s.holdLimit⟩ } :=
    .bare rfl frame noRecord noAsk stands (.inl ⟨nofun, free⟩)
  have linked : ({ s with context := some { c with request := .waiting r, hold := some ⟨p, s.holdLimit⟩ } } : State).Linked :=
    ⟨down.same ⟨rfl, rfl, rfl, rfl, rfl⟩, opens.up, addressed.withContext known ⟨rfl, rfl, rfl⟩ rfl ⟨rfl, rfl, rfl, rfl⟩⟩
  refine .ite (fun _ => ?_) fun _ => linked.arbiter _
  exact ⟨linked.down.same (by simp), linked.up.failHold fun e opened => by cases opened; nofun, linked.addressed.failHold⟩

theorem State.recordRequest_makeRequest (none_ : s.recordRequest = none) (c : Context) (r : Request) (p : HoldPoint) :
    (s.makeRequest c r p).recordRequest = none := by
  unfold State.makeRequest
  dsimp only
  split
  · unfold State.failHold
    dsimp only
    split <;> simp_all
  · simpa using none_

end Sys2Proof.Machine
end

section
/-! PROOFS. The engines' transactions as the invariants see them: bytes sent, answered and read (R114 to R123), each by the Work of the
engine. -/

namespace Sys2Proof.Machine

variable {s t : State} {c d : Context} {g : Seg} {r : Request} {x y : Transaction}

/-! ### A BUSY engine goes on -/

theorem State.mode_of_setBusy (engines : t.engines = (s.setBusy g y).engines) : (t.engine g).mode = .busy y := by
  rw [State.engine_congr engines, State.engine_setBusy, if_pos rfl]

theorem State.engine_of_setBusy (engines : t.engines = (s.setBusy g y).engines) {h : Seg} (other : h ≠ g) :
    t.engine h = s.engine h := by
  rw [State.engine_congr engines, State.engine_setBusy, if_neg (Ne.symm other)]

/-- The engine of the context's segment goes on with the context's request. -/
theorem State.Tied.goesOn (tied : s.Tied c x r) (engines : t.engines = (s.setBusy c.route.segment y).engines)
    (route : d.route = c.route) (work : y.work = .request r) (makes : d.Makes r) (attends : d.Attends y t.sending) : t.Tied d y r := by
  refine ⟨by rw [route]; exact State.mode_of_setBusy engines, work, makes, attends, fun h other => ?_⟩
  rw [route] at other
  rw [State.engine_of_setBusy engines other]
  exact tied.others h other

theorem Context.Makes.alike (makes : c.Makes r) (same : d.slot = c.slot ∧ d.route = c.route ∧ d.direction = c.direction) :
    d.Makes r := by
  obtain ⟨slot, route, direction⟩ := same
  unfold Context.Makes
  rw [slot, route, direction]
  exact makes

/-- A record or a withdrawn request goes on; the port sees nothing of it. -/
theorem State.Linked.quietly (linked : s.Linked) (mode : (s.engine g).mode = .busy x)
    (quiet : (EngineMode.busy x).carriesRequest = false) (work : y.work = x.work) (fits : y.Fits) : (s.setBusy g y).Linked := by
  refine ⟨linked.down.goesOn mode ?_ fits, ?_, linked.addressed.setBusy g y⟩
  · simp only [EngineMode.request, work]
  · refine linked.up.engine (g := g) ⟨rfl, rfl, rfl, rfl, rfl, rfl⟩ (fun h other => State.engine_of_setBusy rfl other) ?_ ?_ ?_
    · rw [mode]
      exact quiet
    · rw [State.mode_of_setBusy (y := y) rfl]
      simpa only [EngineMode.carriesRequest, work] using quiet
    · rw [State.mode_of_setBusy (y := y) rfl]
      exact fun _ _ _ _ => rfl

theorem quiet_record (work : x.work = .record) : (EngineMode.busy x).carriesRequest = false := by
  simp only [EngineMode.carriesRequest, work]

theorem quiet_detached (work : x.work = .detached r) : (EngineMode.busy x).carriesRequest = false := by
  simp only [EngineMode.carriesRequest, work]

/-- The context's request goes on, and the port awaits it still. -/
theorem State.Linked.requestGoesOn (linked : s.Linked) (mode : (s.engine g).mode = .busy x) (work : x.work = .request r)
    (fits : y.Fits) (work' : y.work = .request r) (attends : ∀ c, s.Opens c → c.Makes r → c.Attends x s.sending → c.Attends y s.sending) :
    (s.setBusy g y).Linked := by
  obtain ⟨c, opens, taken, rfl, tied⟩ := linked.up.carried mode work
  refine ⟨linked.down.goesOn mode ?_ fits, ?_, linked.addressed.setBusy _ y⟩
  · rw [EngineMode.request_of (.inl work), EngineMode.request_of (.inl work')]
  · obtain ⟨noRecord, noAsk⟩ := opens.stands.plain (by rw [taken]; nofun)
    have stands := opens.stands
    rw [noRecord, noAsk] at stands
    exact State.Opens.up (.bare opens.context opens.frame noRecord noAsk stands
      (.inr ⟨taken, y, r, tied.goesOn rfl rfl work' tied.makes (attends c opens tied.makes tied.attends)⟩))

/-! ### What the port holds while a request's bytes go (R66, R71) -/

/-- A write whose byte is unanswered holds at PASS_BYTE. -/
theorem State.Opens.writeHeld (opens : s.Opens c) (taken : c.request = .taken) (write : c.direction = .write) (held : c.hold.isSome = true) :
    ∃ limit, c.hold = some ⟨.passByte, limit⟩ ∧ s.port = .upWrite := by
  obtain ⟨⟨p, limit⟩, hold⟩ := Option.isSome_iff_exists.mp held
  obtain ⟨address, byte, data⟩ := opens.stands.atHold hold
  cases p with
  | passByte => exact ⟨limit, hold, (data (.inl rfl)).1⟩
  | postByte =>
    have := (opens.stands.fits.2.1 _ hold rfl).1
    rw [taken] at this
    cases this
  | readAddress =>
    rw [write] at address
    cases (address rfl).2
  | readByte =>
    rw [write] at byte
    cases (byte rfl).2

theorem Context.Makes.write (makes : c.Makes r) (kind : r.kind = .write) : c.direction = .write := makes.2.2.2.mp kind

theorem Context.Makes.read (makes : c.Makes r) (kind : r.kind ≠ .write) : c.direction = .read := by
  cases way : c.direction with
  | read => rfl
  | write => exact absurd (makes.2.2.2.mpr way) kind

/-- A read holds unless its byte is with the master or its transaction ends. -/
theorem Context.Attends.held (attends : c.Attends x s.sending) (read : c.direction = .read) (working : x.phase ≠ .ackHold)
    (going : x.phase ≠ .stopping) : ∃ h, c.hold = some h := by
  cases hold : c.hold with
  | some h => exact ⟨h, rfl⟩
  | none =>
    rcases attends.ofByte read hold with ⟨phase, -⟩ | phase
    · exact absurd phase working
    · exact absurd phase going

/-- A write without a hold stands with its request taken. -/
theorem Context.Stands.writing {sending : Option Byte} (write : d.direction = .write) (hold : d.hold = none) (taken : d.request = .taken)
    (pass : d.route.mode = .pass) (target : d.source = .target) (follow : d.follow = true → d.route.width ≠ .raw) :
    d.Stands .upWrite sending none none := by
  refine ⟨⟨write, by rw [hold]; nofun⟩, ⟨by rw [hold]; nofun, by rw [hold]; nofun, fun _ => .inr taken, fun _ _ => pass, fun _ => target,
    fun cache => ?_, fun _ => hold, follow⟩, ⟨nofun, by rw [hold]; nofun⟩, nofun, fun q waiting => ?_, nofun⟩
  · rw [target] at cache
    cases cache
  · rw [taken] at waiting
    cases waiting

/-- The byte held at PASS_BYTE is answered upstream, and the engine goes on with the request (R66). -/
theorem State.Opens.byteAnswered (opens : s.Opens c) (tied : s.Tied c x r) (taken : c.request = .taken) (kind : r.kind = .write)
    (engines : t.engines = (s.setBusy c.route.segment y).engines) (context : t.context = some d)
    (same : t.frame = s.frame ∧ t.port = s.port ∧ t.openRecord = s.openRecord ∧ t.recordRequest = s.recordRequest)
    (alike : d.slot = c.slot ∧ d.route = c.route ∧ d.direction = c.direction ∧ d.request = c.request ∧ d.source = c.source ∧
      d.follow = c.follow) (held : c.hold.isSome = true) (free : d.hold = none) (work : y.work = .request r)
    (answered : y.unanswered = false) (waits : d.refusing = false → y.phase = .writeWait) : t.Up := by
  have write := tied.makes.write kind
  obtain ⟨limit, -, port⟩ := opens.writeHeld taken write held
  obtain ⟨noRecord, noAsk⟩ := opens.stands.plain (by rw [taken]; nofun)
  obtain ⟨-, -, -, pass, target, -, -, follow⟩ := opens.stands.fits
  obtain ⟨slot, route, direction, request, source, follows⟩ := alike
  refine (State.Opens.bare context (same.1.trans opens.frame) (same.2.2.1.trans noRecord) (same.2.2.2.trans noAsk) ?_
    (.inr ⟨request.trans taken, y, r, tied.goesOn engines route work (tied.makes.alike ⟨slot, route, direction⟩) ?_⟩)).up
  · rw [same.2.1, port]
    refine .writing (direction.trans write) free (request.trans taken) ?_ (source.trans (target write)) ?_
    · rw [route]
      exact pass write (by rw [taken]; nofun)
    · rw [follows, route]
      exact follow
  · refine .write (direction.trans write) ?_ fun _ => waits
    rw [answered, free]
    exact ⟨nofun, nofun⟩

/-! ### Answers to opening bytes (R115, R116, R118, R121) -/

/-- A byte of a request is sent after an opening one. -/
theorem State.Linked.sends (linked : s.Linked) (mode : (s.engine g).mode = .busy x) (work : x.work = .request r)
    (opening : x.Opening r) (sends : x.Sends r y) : (s.setBusy g y).Linked := by
  have fits := linked.down.fits mode
  have work' : y.work = .request r := by cases sends <;> exact work
  refine linked.requestGoesOn mode work (fits.requestSent work opening sends) work' fun c opens makes attends => ?_
  have before : x.phase.beforeAnswer = true := by rcases opening.1 with h | h <;> rw [h] <;> rfl
  obtain ⟨-, -, -, -, -, answer⟩ := (Transaction.fits_request work).mp fits
  by_cases kind : r.kind = .write
  · have write := makes.write kind
    obtain ⟨holds, -⟩ := attends.ofWrite write
    have same : y.unanswered = x.unanswered := by cases sends <;> rfl
    have held := holds.mp (answer.mpr ⟨kind, before⟩)
    refine .write write (by rw [same]; exact holds) fun free => ?_
    rw [free] at held
    cases held
  · have read := makes.read kind
    obtain ⟨h, held⟩ := attends.held read (by rcases opening.1 with h | h <;> rw [h] <;> nofun)
      (by rcases opening.1 with h | h <;> rw [h] <;> nofun)
    refine .hold read held ?_
    cases sends with
    | index b more => exact .inr (.inl rfl)
    | data b write => exact absurd write kind
    | turn indexed => exact .inr (.inr (.inl rfl))

/-- A read's byte is refused: the engine goes to P, and the port holds until it is made (R118). -/
theorem State.Linked.readRefused (linked : s.Linked) (mode : (s.engine g).mode = .busy x) (work : x.work = .request r)
    (kind : r.kind ≠ .write) (working : x.phase ≠ .ackHold) (going : x.phase ≠ .stopping) : (s.setBusy g (x.stopWith true)).Linked := by
  refine linked.requestGoesOn mode work ((linked.down.fits mode).readRefused work kind true) work fun c _ makes attends => ?_
  obtain ⟨h, held⟩ := attends.held (makes.read kind) working going
  exact .hold (makes.read kind) held (.inr (.inr (.inr (.inl ⟨rfl, rfl⟩))))

/-- A write's byte is refused at the target, and the port mirrors it (R66, R116). -/
theorem State.Linked.writeRefused (linked : s.Linked) (mode : (s.engine g).mode = .busy x) (work : x.work = .request r)
    (kind : r.kind = .write) (before : x.phase.beforeAnswer = true) (k : Option Key) :
    (((s.setBusy g { x.stopWith true with unanswered := false }).cacheUnsure k).nackHeldByte).Linked := by
  have fits := linked.down.fits mode
  have stopped := fits.requestStopped work true
  have request : (EngineMode.busy { x.stopWith true with unanswered := false }).request = (EngineMode.busy x).request := rfl
  refine ⟨(linked.down.goesOn mode request stopped).same (by simp), ?_, ((linked.addressed.setBusy g _).cacheUnsure k).nackHeldByte⟩
  obtain ⟨c, opens, taken, rfl, tied⟩ := linked.up.carried mode work
  obtain ⟨-, -, -, -, -, answer⟩ := (Transaction.fits_request work).mp fits
  have held := (tied.attends.ofWrite (tied.makes.write kind)).1.mp (answer.mpr ⟨kind, before⟩)
  have opened : ((s.setBusy c.route.segment { x.stopWith true with unanswered := false }).cacheUnsure k).context = some c := by
    simpa using opens.context
  rw [State.nackHeldByte_eq opened]
  exact opens.byteAnswered tied taken kind (y := { x.stopWith true with unanswered := false })
    (d := { c with hold := none, refusing := true }) (by simp) rfl (by simp) ⟨rfl, rfl, rfl, rfl, rfl, rfl⟩ held rfl work rfl nofun

/-- The answer to an opening byte. -/
theorem State.Linked.answerOpening (linked : s.Linked) (mode : (s.engine g).mode = .busy x)
    (phase : x.phase = .addressing ∨ x.phase = .indexing) (notRead : ∀ r, x.work = .request r → r.kind ≠ .rawRead) (ack : Bool) :
    (s.answerOpening g x ack).Linked := by
  have fits := linked.down.fits mode
  unfold State.answerOpening
  split
  next work =>
    split
    next q rest list =>
      cases ack with
      | true => exact linked.quietly mode (quiet_record work) (by
          unfold Transaction.sendNext
          simp only [if_true]
          split <;> rfl) (fits.recordSent work _ _)
      | false => exact linked.quietly mode (quiet_record work) rfl (fits.recordStopped work true)
    next => exact linked
  next r work =>
    have opening : x.Opening r := ⟨phase, notRead r work⟩
    have before : x.phase.beforeAnswer = true := by rcases phase with h | h <;> rw [h] <;> rfl
    have working : x.phase ≠ .ackHold := by rcases phase with h | h <;> rw [h] <;> nofun
    have going : x.phase ≠ .stopping := by rcases phase with h | h <;> rw [h] <;> nofun
    refine .ite (fun _ => linked.sends mode work opening (fits.sends work opening)) fun _ => ?_
    by_cases kind : r.kind = .write
    · rw [State.refuseOpening_write kind]
      exact linked.writeRefused mode work kind before _
    · rw [State.refuseOpening_read kind]
      have := linked.readRefused mode work kind working going
      rwa [show ({ x.stopWith true with unanswered := false } : Transaction) = x.stopWith true by
        rw [← fits.unanswered_of_read work kind]; rfl]
  next r work => exact linked.quietly mode (quiet_detached work) rfl (fits.detachedStopped work false .stop)

/-! ### Answers to PA+R and to data bytes (R54, R66, R71, R116, R118, R121) -/

/-- PA+R is acknowledged: a read held at its address goes to its first byte (R54, R71). -/
theorem State.Linked.readAcknowledged (linked : s.Linked) (mode : (s.engine g).mode = .busy x) (work : x.work = .request r)
    (turning : x.Turning r) : ((s.setBusy g x.read).reportReadAck).Linked := by
  have fits := (linked.down.fits mode).requestReads work turning
  have request : (EngineMode.busy x.read).request = (EngineMode.busy x).request := rfl
  refine ⟨(linked.down.goesOn mode request fits).same (by simp), ?_, (linked.addressed.setBusy g _).reportReadAck⟩
  obtain ⟨c, opens, taken, rfl, tied⟩ := linked.up.carried mode work
  have read := tied.makes.read turning.2
  obtain ⟨⟨p, limit⟩, held⟩ := tied.attends.held read (by rcases turning.1 with h | h <;> rw [h] <;> nofun)
    (by rcases turning.1 with h | h <;> rw [h] <;> nofun)
  obtain ⟨noRecord, noAsk⟩ := opens.stands.plain (by rw [taken]; nofun)
  obtain ⟨address, byte, data⟩ := opens.stands.atHold held
  have opened : (s.setBusy c.route.segment x.read).context = some c := opens.context
  have stands := opens.stands
  rw [noRecord, noAsk] at stands
  cases p with
  | readAddress =>
    rw [State.reportReadAck_address opened held]
    obtain ⟨-, -, -, -, -, cache, filler, -⟩ := stands.fits
    have target : c.source = .target := by
      cases source : c.source with
      | target => rfl
      | cache => rw [cache source] at taken; cases taken
      | filler => rw [filler source] at held; cases held
    refine State.Opens.up (c := { c with
      follow := decide (c.route.width ≠ .raw ∧ (s.slotRuntime c.slot).pointer ≠ none), hold := some ⟨.readByte, s.holdLimit⟩ })
      (.bare rfl opens.frame noRecord noAsk ?_ (.inr ⟨taken, x.read, r, tied.goesOn rfl rfl work tied.makes ?_⟩))
    · refine ⟨⟨read, fun h member => by cases member; rfl⟩, ⟨fun _ _ _ => ?_, fun h member point => ?_, nofun, fun w => ?_, fun w => ?_,
        fun source => ?_, fun source => ?_, fun h => (of_decide_eq_true h).1⟩, ⟨nofun, fun ⟨h, member, point⟩ => ?_⟩, nofun,
        fun q waiting => ?_, nofun⟩
      · change c.request ≠ .absent
        rw [taken]; nofun
      · cases member; cases point
      · cases read.symm.trans w
      · cases read.symm.trans w
      · cases target.symm.trans source
      · cases target.symm.trans source
      · cases member; cases point
      · cases taken.symm.trans waiting
    · refine .hold (k := ⟨.readByte, s.holdLimit⟩) ?_ ?_ (.inr (.inr (.inr (.inr ⟨?_, rfl⟩))))
      · exact read
      · rfl
      · rfl
  | readByte =>
    rw [State.reportReadAck_byte opened held]
    exact (State.Opens.bare opened opens.frame noRecord noAsk stands (.inr ⟨taken, x.read, r, tied.goesOn rfl rfl work tied.makes
      (.hold read held (.inr (.inr (.inr (.inr ⟨rfl, rfl⟩)))))⟩)).up
  | passByte =>
    cases read.symm.trans (data (.inl rfl)).2
  | postByte =>
    cases read.symm.trans (data (.inr rfl)).2

theorem State.Linked.answerReadAddress (linked : s.Linked) (mode : (s.engine g).mode = .busy x)
    (turning : ∀ r, x.work = .request r ∨ x.work = .detached r → x.Turning r) (ack : Bool) :
    (s.answerReadAddress g x ack).Linked := by
  have fits := linked.down.fits mode
  unfold State.answerReadAddress
  split
  · exact linked
  next r work =>
    have turns := turning r (.inl work)
    exact .ite (fun _ => linked.readAcknowledged mode work turns) fun _ => linked.readRefused mode work turns.2
      (by rcases turns.1 with h | h <;> rw [h] <;> nofun) (by rcases turns.1 with h | h <;> rw [h] <;> nofun)
  next r work =>
    cases ack with
    | true => exact linked.quietly mode (quiet_detached work) rfl (fits.detachedReads work (turning r (.inr work)))
    | false => exact linked.quietly mode (quiet_detached work) rfl (fits.detachedStopped work false .stop)

/-- A late outcome is a matter of the cache and the log alone (R59, R123). -/
theorem State.Linked.lateOutcome (linked : s.Linked) (x : Transaction) (r : Request) (delivered : Bool) :
    (s.lateOutcome x r delivered).Linked :=
  ⟨linked.down.same (by simp), linked.up.same (by simp) (by simp), linked.addressed.lateOutcome x r delivered⟩

/-- The data byte is acknowledged, and so is the byte held (R66, R116). -/
theorem State.Linked.writeAcknowledged (linked : s.Linked) (mode : (s.engine g).mode = .busy x) (work : x.work = .request r)
    (phase : x.phase = .writing) (k : Option Key) (b : Byte) :
    (((s.setBusy g { x with phase := .writeWait, unanswered := false, out := .released }).cacheWritten g k b).ackHeldByte).Linked := by
  have fits := linked.down.fits mode
  have request : (EngineMode.busy { x with phase := .writeWait, unanswered := false, out := .released }).request =
    (EngineMode.busy x).request := rfl
  have written := (linked.down.goesOn mode request (fits.writeAnswered work phase)).same (t := (s.setBusy g { x with
    phase := .writeWait, unanswered := false, out := .released }).cacheWritten g k b) (by simp)
  refine ⟨written.ackHeldByte, ?_, ((linked.addressed.setBusy g _).cacheWritten g k b).ackHeldByte⟩
  obtain ⟨c, opens, taken, rfl, tied⟩ := linked.up.carried mode work
  obtain ⟨-, -, passes, -, -, answer⟩ := (Transaction.fits_request work).mp fits
  have kind : r.kind = .write := by
    rw [phase] at passes
    cases kind : r.kind <;> simp [kind, RequestKind.passes] at passes ⊢
  have held := (tied.attends.ofWrite (tied.makes.write kind)).1.mp (answer.mpr ⟨kind, by rw [phase]; rfl⟩)
  obtain ⟨limit, hold, -⟩ := opens.writeHeld taken (tied.makes.write kind) held
  have opened : ((s.setBusy c.route.segment { x with phase := .writeWait, unanswered := false, out := .released }).cacheWritten
      c.route.segment k b).context = some c := by simpa using opens.context
  rw [State.ackHeldByte_eq opened hold]
  refine State.Up.same (s := { (s.setBusy c.route.segment { x with
    phase := .writeWait, unanswered := false, out := .released }).cacheWritten c.route.segment k b with
    answer := .ack, context := some { c.counted with hold := none } }) ?_ ?_ ?_
  · exact opens.byteAnswered tied taken kind (y := { x with phase := .writeWait, unanswered := false, out := .released })
      (d := { c.counted with hold := none }) (by simp) rfl (by simp) ⟨rfl, rfl, rfl, rfl, rfl, rfl⟩ held rfl work rfl fun _ => rfl
  · unfold State.followed
    split
    · exact ⟨rfl, rfl, rfl, rfl, rfl, rfl⟩
    · exact ⟨rfl, rfl, rfl, rfl, rfl, rfl⟩
  · unfold State.followed
    split <;> rfl

theorem State.Linked.answerData (linked : s.Linked) (mode : (s.engine g).mode = .busy x) (phase : x.phase = .writing) (ack : Bool) :
    (s.answerData g x ack).Linked := by
  have fits := linked.down.fits mode
  unfold State.answerData
  split
  next work =>
    split
    next q rest list =>
      cases ack with
      | true => exact linked.quietly mode (quiet_record work) (by
          unfold Transaction.sendNext
          simp only [if_true]
          split <;> rfl) (fits.recordSent work _ _)
      | false => exact linked.quietly mode (quiet_record work) rfl (fits.recordStopped work true)
    next => exact linked
  next r work =>
    have kind : r.kind = .write := by
      obtain ⟨-, -, passes, -⟩ := (Transaction.fits_request work).mp fits
      rw [phase] at passes
      cases kind : r.kind <;> simp [kind, RequestKind.passes] at passes ⊢
    exact .ite (fun _ => linked.writeAcknowledged mode work phase _ _)
      fun _ => linked.writeRefused mode work kind (by rw [phase]; rfl) _
  next r work =>
    exact State.Linked.lateOutcome (linked.quietly (y := { x.stopWith (!ack) with unanswered := false, entryOwed := false }) mode
      (quiet_detached work) rfl (fits.detachedAnswered work _)) _ _ _

/-! ### Bytes read (R71, R119, R121) -/

/-- A byte read is offered to the cache under a key of its request. -/
theorem State.Linked.offered (linked : s.Linked) (mode : (s.engine g).mode = .busy x) (work : x.work = .request r ∨ x.work = .detached r)
    (b : Byte) : (s.offered g x r b).Linked := by
  refine .ite (fun _ => ?_) fun _ => linked
  refine ⟨linked.down.same (by simp), linked.up.same (by simp) (by simp), linked.addressed.offer (fun unmarked => ?_) b⟩
  have own := linked.down.segment g
  unfold State.SegmentOk at own
  rw [mode] at own
  exact (own.route r (EngineMode.request_of work)).2 unmarked

/-- The byte goes to the port, which sends it (R71, R119). -/
theorem State.Linked.byteHanded (linked : s.Linked) (mode : (s.engine g).mode = .busy x) (work : x.work = .request r)
    (phase : x.phase = .reading) (b : Byte) : ((s.setBusy g { x with phase := .ackHold, out := .released }).handByte b).Linked := by
  have fits := linked.down.fits mode
  have request : (EngineMode.busy { x with phase := .ackHold, out := .released }).request = (EngineMode.busy x).request := rfl
  refine ⟨(linked.down.goesOn mode request (fits.byteRead work phase)).same (by simp), ?_, (linked.addressed.setBusy g _).handByte b⟩
  obtain ⟨c, opens, taken, rfl, tied⟩ := linked.up.carried mode work
  have kind : r.kind ≠ .write := by
    obtain ⟨-, -, passes, -⟩ := (Transaction.fits_request work).mp fits
    rw [phase] at passes
    intro kind
    rw [kind] at passes
    cases passes
  have read := tied.makes.read kind
  obtain ⟨⟨p, limit⟩, held⟩ := tied.attends.held read (by rw [phase]; nofun) (by rw [phase]; nofun)
  have point : p = .readByte := by
    rcases tied.attends.ofHold read held with h | h | h | h | h
    · rw [phase] at h; cases h
    · rw [phase] at h; cases h
    · rw [phase] at h; cases h
    · rw [phase] at h; cases h.1
    · exact h.2
  subst point
  obtain ⟨-, -, -, pass, write, cache, filler, follow⟩ := opens.stands.fits
  obtain ⟨reads, -⟩ := (opens.stands.atHold held).2.1 rfl
  obtain ⟨noRecord, noAsk⟩ := opens.stands.plain (by rw [taken]; nofun)
  have target : c.source = .target := by
    cases source : c.source with
    | target => rfl
    | cache => rw [cache source] at taken; cases taken
    | filler => rw [filler source] at held; cases held
  have opened : (s.setBusy c.route.segment { x with phase := .ackHold, out := .released }).context = some c := opens.context
  rw [State.handByte_eq b opened held]
  refine State.Opens.up (c := { c with hold := none }) (.bare rfl opens.frame noRecord noAsk ?_
    (.inr ⟨taken, _, r, tied.goesOn rfl rfl work tied.makes ?_⟩))
  · change Context.Stands _ s.port (some b) none none
    rw [reads]
    exact ⟨⟨read, nofun⟩, ⟨nofun, nofun, fun _ => .inr taken, pass, write, cache, fun _ => rfl, follow⟩, ⟨nofun, nofun⟩, nofun,
      fun q waiting => (by cases taken.symm.trans waiting), fun _ _ _ _ => taken⟩
  · exact Context.Attends.byte (c := { c with hold := none }) (sending := some b) read rfl (.inl ⟨rfl, target, rfl⟩)

end Sys2Proof.Machine
end

section
/-! PROOFS. The ends of transactions and of recovery procedures as the invariants see them: P, a segment fault, STUCK (R89 to R95, R118,
R123, R133 to R143), and with them every event of a segment. -/

namespace Sys2Proof.Machine

variable {s t u : State} {c : Context} {g : Seg} {r : Request} {x : Transaction}

/-! ### An engine leaves BUSY -/

theorem State.mode_leaveBusy (s : State) (g : Seg) (m : EngineMode) : ((s.leaveBusy g m).engine g).mode = m := by
  rw [State.engine_leaveBusy, if_pos rfl]

/-- The engine of a record, or of a withdrawn request, comes to rest in service; the port sees nothing of it. -/
theorem State.Up.leaves (up : u.Up) (quiet : (u.engine g).mode.carriesRequest = false) {m : EngineMode} (rest : m.isBusy = false)
    (service : m.outOfService = false) : (u.leaveBusy g m).Up := by
  refine up.engine (g := g) ⟨rfl, rfl, rfl, rfl, rfl, rfl⟩ (fun h other => by rw [State.engine_leaveBusy, if_neg (Ne.symm other)]) quiet
    ?_ ?_
  · rw [State.mode_leaveBusy]
    cases m with
    | busy => cases rest
    | _ => rfl
  · rw [State.mode_leaveBusy]
    exact fun _ _ _ _ => service

/-- A carried request is over: the port answers a hold that is still there, and no engine carries it any more (R58, R60, R118). -/
theorem State.Up.requestOver (up : u.Up) (mode : (u.engine g).mode = .busy x) (work : x.work = .request r) (phase : x.phase ≠ .ackHold)
    (same : u.failHold.dropRequest.SamePort t) (others : ∀ h, h ≠ g → t.engine h = u.engine h)
    (rest : (t.engine g).mode.carriesRequest = false) : t.Up := by
  obtain ⟨c, opens, taken, rfl, tied⟩ := up.carried mode work
  have free : t.Free := by
    intro h
    by_cases own : h = c.route.segment
    · rw [own]
      exact rest
    · rw [others h own]
      exact tied.others h own
  cases hold : c.hold with
  | none =>
    rw [State.failHold_eq_self (fun d opened => by cases opens.context.symm.trans opened; exact hold),
      State.dropRequest_eq opens.context] at same
    exact opens.requestEnds taken hold (fun read target sent => phase (tied.attends.sent read hold target sent)) same free
  | some k =>
    obtain ⟨p, limit⟩ := k
    rw [State.failHold_eq opens.context hold, State.holdEnded_dropRequest] at same
    exact opens.holdEnds hold (by cases p <;> exact same) free

theorem Segment.calmOf {a : Tables} {inc : Slot → Byte} {l : List Record} {mark : Bool} (own : Segment a inc g l (.busy x) mark)
    (work : x.work = .request r ∨ x.work = .detached r) : Calm l :=
  own.calm (by rw [EngineMode.delivers_eq, EngineMode.request_of work]; rfl)

/-- A request's engine comes to rest in service, whatever its report does to port, cache and log. -/
theorem State.Down.requestLeaves (down : s.Down) (mode : (s.engine g).mode = .busy x)
    (work : x.work = .request r ∨ x.work = .detached r)
    (same : u.active = s.active ∧ u.runtime = s.runtime ∧ u.lists = s.lists ∧ u.engines = s.engines ∧ u.commitMarks = s.commitMarks)
    {m : EngineMode} (fits : m.Fits) (rest : m.isBusy = false) (service : m.outOfService = false) : (u.leaveBusy g m).Down := by
  refine (down.same same).leaves m ?_ fits rest fun out => by rw [service] at out; cases out
  rw [show u.list g = s.list g by simp only [State.list, same.2.2.1]]
  have own := down.segment g
  unfold State.SegmentOk at own
  rw [mode] at own
  exact own.calmOf work

theorem State.Addressed.lateUnless (addressed : s.Addressed) (x : Transaction) (r : Request) :
    (if x.unanswered then s.lateOutcome x r false else s).Addressed :=
  .ite (fun _ => addressed.lateOutcome x r false) fun _ => addressed

/-- The head record that an engine delivers. -/
theorem State.Down.delivered (down : s.Down) (mode : (s.engine g).mode = .busy x) (work : x.work = .record) :
    ∃ q rest, s.list g = q :: rest := by
  have own := down.segment g
  unfold State.SegmentOk at own
  rw [mode] at own
  obtain ⟨q, member, -⟩ := own.head.mp (by rw [EngineMode.delivers_eq, EngineMode.request_record work]; rfl)
  cases list : s.list g with
  | nil => rw [list] at member; cases member
  | cons q rest => exact ⟨q, rest, rfl⟩

/-! ### P is made (R89 to R92, R115, R118) -/

/-- A failed record and its engine at rest. -/
theorem State.Linked.recordFails (linked : s.Linked) (mode : (s.engine g).mode = .busy x) (work : x.work = .record) {q : Record}
    {rest : List Record} (list : s.list g = q :: rest) (kind : Kind) (i : Option Word16) (a : Byte) (f : Bool) {m : EngineMode}
    (fits : m.Fits) (quiet : m.isBusy = false) (service : m.outOfService = false) :
    (((s.setList g rest).afterFailure q kind i a f).leaveBusy g m).Linked := by
  have gathers : s.Gathers g q := linked.down.placed.gathers (by rw [list]; exact List.mem_cons_self)
  refine ⟨linked.down.afterFailure list kind i a f fits quiet service, ?_,
    ((linked.addressed.setList g rest).afterFailure q kind i a f).leaveBusy g m⟩
  refine State.Up.leaves (State.Up.afterFailure (linked.up.same (t := s.setList g rest) ⟨rfl, rfl, rfl, rfl, rfl, rfl⟩ rfl) q kind i a f)
    ?_ quiet service
  have engines : ((s.setList g rest).afterFailure q kind i a f).engines = s.engines := by
    unfold State.afterFailure
    split <;> simp [State.routeFailed]
  rw [State.engine_congr engines, mode]
  exact quiet_record work

theorem State.Linked.attemptEnds (linked : s.Linked) (mode : (s.engine g).mode = .busy x) (work : x.work = .record) :
    ((s.reportAttempt g x).leaveBusy g .idle).Linked := by
  obtain ⟨q, rest, list⟩ := linked.down.delivered mode work
  have quiet : (s.engine g).mode.carriesRequest = false := by rw [mode]; exact quiet_record work
  unfold State.reportAttempt
  simp only [list, State.failRecord_eq]
  split
  next delivered =>
    refine ⟨linked.down.recordSuccess list, ?_, (linked.addressed.recordSuccess g q rest).leaveBusy g .idle⟩
    have engines : (s.recordSuccess g q rest).engines = s.engines := by simp
    exact State.Up.leaves (linked.up.same (by simp) engines) (by rw [State.engine_congr engines]; exact quiet) rfl rfl
  next =>
    split
    next =>
      split
      next =>
        refine ⟨linked.down.headRetries list, ?_, (linked.addressed.setList g _).leaveBusy g .idle⟩
        exact State.Up.leaves (u := s.setList g ({ q with state := .retryWait } :: rest))
          (linked.up.same ⟨rfl, rfl, rfl, rfl, rfl, rfl⟩ rfl) quiet rfl rfl
      next => exact linked.recordFails mode work list _ _ _ _ trivial rfl rfl
    next => exact linked.recordFails mode work list _ _ _ _ trivial rfl rfl

theorem State.Linked.stopMade (linked : s.Linked) (mode : (s.engine g).mode = .busy x) (phase : x.phase = .stopping) :
    ((s.reportStop g x).leaveBusy g .idle).Linked := by
  have fits := linked.down.fits mode
  cases work : x.work with
  | record =>
    rw [State.reportStop_record work]
    exact linked.attemptEnds mode work
  | request r =>
    rw [State.reportStop_request work]
    obtain ⟨c, opens, taken, own, tied⟩ := linked.up.carried mode work
    have reports : (if x.refused && r.kind != .write then s.failHold else s) = s.failHold := by
      split
      next => rfl
      next silent =>
        refine (State.failHold_eq_self fun d opened => ?_).symm
        cases opens.context.symm.trans opened
        by_cases kind : r.kind = .write
        · obtain ⟨-, -, -, -, -, answer⟩ := (Transaction.fits_request work).mp fits
          have holds := (tied.attends.ofWrite (tied.makes.write kind)).1
          by_contra held
          rw [← ne_eq, ← Option.isSome_iff_ne_none] at held
          have := (answer.mp (holds.mpr held)).2
          rw [phase] at this
          cases this
        · by_contra held
          obtain ⟨h, hold⟩ := Option.ne_none_iff_exists'.mp held
          rcases tied.attends.ofHold (tied.makes.read kind) hold with k | k | k | k | k
          · rw [phase] at k; cases k
          · rw [phase] at k; cases k
          · rw [phase] at k; cases k
          · exact silent (by simp [k.2, kind])
          · rw [phase] at k; cases k.1
    rw [reports]
    refine ⟨linked.down.requestLeaves mode (.inl work) (by simp) trivial rfl rfl, ?_, linked.addressed.failHold.dropRequest.leaveBusy g _⟩
    refine linked.up.requestOver mode work (by rw [phase]; nofun) ⟨rfl, rfl, rfl, rfl, rfl, rfl⟩ (fun h other => ?_) ?_
    · rw [State.engine_leaveBusy, if_neg (Ne.symm other)]
      exact State.engine_congr (by simp) h
    · rw [State.mode_leaveBusy]
      rfl
  | detached r =>
    rw [State.reportStop_detached work]
    have engines : (if x.unanswered then s.lateOutcome x r false else s).engines = s.engines := by split <;> simp
    refine ⟨linked.down.requestLeaves mode (.inr work) ?_ trivial rfl rfl, ?_, (linked.addressed.lateUnless x r).leaveBusy g _⟩
    · split <;> simp
    · refine State.Up.leaves (linked.up.same ?_ engines) (by rw [State.engine_congr engines, mode]; exact quiet_detached work) rfl rfl
      split <;> simp

/-! ### Segment faults (R133 to R138) -/

theorem Procedure.fits_start (b : Bool) : (EngineMode.recovery (Procedure.start b)).Fits := ⟨Nat.zero_le _, fun _ => rfl, nofun⟩

theorem State.Linked.faultReported (linked : s.Linked) (mode : (s.engine g).mode = .busy x) (phase : x.phase ≠ .ackHold) (kind : Kind)
    (during : Phase) : ((s.reportFault g x kind during).leaveBusy g (.recovery (Procedure.start false))).Linked := by
  have starts := Procedure.fits_start false
  unfold State.reportFault
  split
  next work =>
    obtain ⟨q, rest, list⟩ := linked.down.delivered mode work
    simp only [list, State.failRecord_eq]
    exact linked.recordFails mode work list _ _ _ _ starts rfl rfl
  next r work =>
    have told : ∃ v, v = (if x.unanswered then (s.append (faultEntry kind x r during)).cacheUnsure
        (writeKey r.width r.segment r.paddr x.writeIndex) else s.append (faultEntry kind x r during)) ∧
        s.SamePort v ∧ v.active = s.active ∧ v.runtime = s.runtime ∧ v.lists = s.lists ∧ v.engines = s.engines ∧
        v.commitMarks = s.commitMarks ∧ v.Addressed := by
      refine ⟨_, rfl, ?_⟩
      split
      · exact ⟨by simp, by simp, by simp, by simp, by simp, by simp, (linked.addressed.append _).cacheUnsure _⟩
      · exact ⟨by simp, by simp, by simp, by simp, by simp, by simp, linked.addressed.append _⟩
    obtain ⟨v, same, port, active, runtime, lists, engines, marks, addressed⟩ := told
    dsimp only
    rw [← same]
    refine ⟨linked.down.requestLeaves mode (.inl work) (by simp [active, runtime, lists, engines, marks]) starts rfl rfl, ?_,
      addressed.failHold.dropRequest.leaveBusy g _⟩
    refine (linked.up.same port engines).requestOver (by rw [State.engine_congr engines]; exact mode) work phase
      ⟨rfl, rfl, rfl, rfl, rfl, rfl⟩ (fun h other => ?_) ?_
    · rw [State.engine_leaveBusy, if_neg (Ne.symm other)]
      exact State.engine_congr (by simp) h
    · rw [State.mode_leaveBusy]
      rfl
  next r work =>
    have engines : (if x.unanswered then (s.append (faultEntry kind x r during)).lateOutcome x r false
        else s.append (faultEntry kind x r during)).engines = s.engines := by split <;> simp
    refine ⟨linked.down.requestLeaves mode (.inr work) ?_ starts rfl rfl, ?_,
      ((linked.addressed.append _).lateUnless x r).leaveBusy g _⟩
    · split <;> simp
    · refine State.Up.leaves (linked.up.same ?_ engines) (by rw [State.engine_congr engines, mode]; exact quiet_detached work) rfl rfl
      split <;> simp

/-! ### Recovery procedures (R140 to R143) -/

theorem quiet_rest {m : EngineMode} (rest : m.isBusy = false) : m.carriesRequest = false := by
  cases m with
  | busy => cases rest
  | _ => rfl

/-- A resting engine changes to another state in service. -/
theorem State.Linked.setMode (linked : s.Linked) {m : EngineMode} (before : (s.engine g).mode.isBusy = false) (fits : m.Fits)
    (rest : m.isBusy = false) (service : m.outOfService = false) : (s.setMode g m).Linked := by
  refine ⟨linked.down.setMode before fits rest (fun out => by rw [service] at out; cases out), ?_, linked.addressed.setMode g m⟩
  refine linked.up.engine (g := g) ⟨rfl, rfl, rfl, rfl, rfl, rfl⟩ (fun h other => by rw [State.engine_setMode, if_neg (Ne.symm other)])
    (quiet_rest before) ?_ ?_
  · rw [State.engine_setMode_self]
    exact quiet_rest rest
  · rw [State.engine_setMode_self]
    exact fun _ _ _ _ => service

theorem State.SamePort.failHold (same : s.SamePort u) : s.failHold.SamePort u.failHold := by
  obtain ⟨port, context, sending, opened, asks, frame⟩ := same
  by_cases none_ : ∀ c, s.context = some c → c.hold = none
  · rw [State.failHold_eq_self none_, State.failHold_eq_self (by rw [context]; exact none_)]
    exact ⟨port, context, sending, opened, asks, frame⟩
  · simp only [not_forall] at none_
    obtain ⟨c, current, held⟩ := none_
    obtain ⟨⟨p, limit⟩, held⟩ := Option.ne_none_iff_exists'.mp held
    rw [State.failHold_eq current held, State.failHold_eq (context.trans current) held]
    cases p with
    | readAddress => exact ⟨rfl, rfl, sending, opened, asks, frame⟩
    | readByte => exact ⟨port, rfl, rfl, opened, asks, frame⟩
    | _ => exact ⟨port, rfl, sending, opened, rfl, frame⟩

theorem State.SamePort.discarded (same : s.SamePort u) (g : Seg) (cause : Byte) :
    (s.discarded g cause).SamePort (u.discarded g cause) := by
  obtain ⟨port, context, sending, opened, asks, frame⟩ := same
  simp [port, context, sending, opened, asks, frame]

/-- The work that waits on a segment ends, and its records are discarded: then the port has no record of it and asks for none (R99,
R143). -/
theorem State.Up.segmentLost (up : s.Up) (g : Seg) (cause : Byte) :
    ((if (s.workWaitingOn g).isSome then s.failHold else s).discarded g cause).Up ∧
      ∀ c, ((if (s.workWaitingOn g).isSome then s.failHold else s).discarded g cause).Opens c → c.route.segment = g →
        ((if (s.workWaitingOn g).isSome then s.failHold else s).discarded g cause).openRecord = none ∧
        ((if (s.workWaitingOn g).isSome then s.failHold else s).discarded g cause).recordRequest = none := by
  have waits : ∀ w, s.workWaitingOn g = some w → ∃ c, s.context = some c ∧ c.request ≠ .taken ∧ c.hold ≠ none := by
    intro w waiting
    unfold State.workWaitingOn at waiting
    split at waiting
    next => cases waiting
    next c opened =>
      have fits := (up.opens opened).stands.fits
      refine ⟨c, opened, ?_⟩
      split at waiting
      next =>
        split at waiting
        next r request =>
          refine ⟨by rw [request]; nofun, fun free => ?_⟩
          rcases fits.2.2.1 free with h | h <;> rw [request] at h <;> cases h
        next =>
          split at waiting
          next h held =>
            split at waiting
            next point => exact ⟨by rw [(fits.2.1 h held point).1]; nofun, by rw [held]; nofun⟩
            next => cases waiting
          next => cases waiting
      next => cases waiting
  have before : (if (s.workWaitingOn g).isSome then s.failHold else s).Up := by
    split
    next some_ =>
      obtain ⟨w, waiting⟩ := Option.isSome_iff_exists.mp some_
      obtain ⟨c, opened, free, -⟩ := waits w waiting
      exact up.failHold fun d other => by cases opened.symm.trans other; exact free
    next => exact up
  refine ⟨before.discarded g cause, fun c opens own => ⟨?_, ?_⟩⟩
  · cases opened : ((if (s.workWaitingOn g).isSome then s.failHold else s).discarded g cause).openRecord with
    | none => rfl
    | some q =>
      obtain ⟨-, -, -, -, -, -, segment, -⟩ := opens.stands.opened q opened
      rw [State.openRecord_discarded] at opened
      generalize (if (s.workWaitingOn g).isSome then s.failHold else s) = z at opened
      split at opened
      next => cases opened
      next kept =>
        rw [opened] at kept
        simp [segment, own] at kept
  · refine opens.stands.asks_none fun h held point => ?_
    have context := opens.context
    rw [State.context_discarded] at context
    obtain ⟨d, opened, rfl⟩ := Option.map_eq_some_iff.mp context
    change d.hold = some h at held
    change d.route.segment = g at own
    split at opened
    next some_ =>
      obtain ⟨w, waiting⟩ := Option.isSome_iff_exists.mp some_
      obtain ⟨e, was, -, holds⟩ := waits w waiting
      obtain ⟨k, hold⟩ := Option.ne_none_iff_exists'.mp holds
      rw [State.failHold_eq was hold] at opened
      cases at_ : k.point with
      | readAddress => rw [at_] at opened; cases opened
      | readByte => rw [at_] at opened; cases opened; cases held
      | passByte => rw [at_] at opened; cases opened; cases held
      | postByte => rw [at_] at opened; cases opened; cases held
    next none_ =>
      obtain ⟨limit, rfl⟩ : ∃ limit, h = ⟨.postByte, limit⟩ := ⟨h.limit, by rw [← point]⟩
      have absent := ((up.opens opened).stands.fits.2.1 _ held rfl).1
      rw [State.workWaitingOn_postByte opened own absent held] at none_
      exact none_ rfl

theorem State.stuckWith_items (s : State) (g : Seg) (p : Procedure) (cause : StuckCause) (w : Option (Context × Bool)) :
    s.SamePort (s.stuckWith g p cause w) ∧ (s.stuckWith g p cause w).engines = (s.setMode g .stuck).engines ∧
      (s.stuckWith g p cause w).runtime = s.runtime ∧ (s.stuckWith g p cause w).active = s.active ∧
      (s.stuckWith g p cause w).lists = s.lists ∧ (s.stuckWith g p cause w).commitMarks = s.commitMarks ∧
      (s.stuckWith g p cause w).cache = s.cache := by
  unfold State.stuckWith State.completed
  split <;> simp

theorem State.Linked.stuck (linked : s.Linked) (rest : (s.engine g).mode.isBusy = false) (p : Procedure) (cause : StuckCause) :
    ((if (s.workWaitingOn g).isSome then (s.stuckWith g p cause (s.workWaitingOn g)).failHold
      else s.stuckWith g p cause (s.workWaitingOn g)).discarded g 0x02#8).Linked := by
  obtain ⟨port, engines, runtime, active, lists, marks, cache⟩ := s.stuckWith_items g p cause (s.workWaitingOn g)
  have stuckAddressed : (s.stuckWith g p cause (s.workWaitingOn g)).Addressed :=
    linked.addressed.same ⟨active, runtime, port.2.1, cache⟩
  have touches := State.touches_stuckWith (s := s) (g := g) p cause (s.workWaitingOn g)
  generalize s.stuckWith g p cause (s.workWaitingOn g) = v at *
  have ended : ∃ w, w = (if (s.workWaitingOn g).isSome then v.failHold else v) ∧
      (if (s.workWaitingOn g).isSome then s.failHold else s).SamePort w ∧ w.engines = v.engines ∧ w.runtime = s.runtime ∧
      w.lists = s.lists ∧ w.commitMarks = s.commitMarks ∧ w.Addressed ∧ v.Touches w g := by
    refine ⟨_, rfl, ?_⟩
    split
    · exact ⟨port.failHold, by simp, by simpa using runtime, by simpa using lists, by simpa using marks, stuckAddressed.failHold,
        v.touches_failHold g⟩
    · exact ⟨port, rfl, runtime, lists, marks, stuckAddressed, .refl v g⟩
  obtain ⟨w, equal, same, engines', runtime', lists', marks', addressed, touches'⟩ := ended
  rw [← equal]
  obtain ⟨lostUp, lostNone⟩ := linked.up.segmentLost g 0x02#8
  have mode : ((w.discarded g 0x02#8).engine g).mode = .stuck := by
    rw [State.engine_congr (u := w.discarded g 0x02#8) (s := s.setMode g .stuck) (by simp [engines', engines]), State.engine_setMode_self]
  refine ⟨?_, ?_, addressed.discarded g _⟩
  · have all := (touches.trans touches').trans (w.touches_discarded g 0x02#8)
    refine linked.down.update all ?_ (State.PendingOk.discarded (linked.down.pending.same ⟨lists', runtime'⟩) g _)
    have own := linked.down.segment g
    unfold State.SegmentOk at own ⊢
    rw [mode, State.list_discarded, if_pos rfl, show (w.discarded g 0x02#8).commitMark g = s.commitMark g by
      simp [State.commitMark, marks'], own.unmarked rest]
    exact .atRest .nil nofun trivial rfl fun _ => rfl
  · have before : (if (s.workWaitingOn g).isSome then s.failHold else s).engines = s.engines := by split <;> simp
    generalize (if (s.workWaitingOn g).isSome then s.failHold else s) = z at *
    have engine (h : Seg) : (z.discarded g 0x02#8).engine h = s.engine h := State.engine_congr (by simpa using before) h
    refine lostUp.engine (g := g) (same.discarded g _) (fun h other => ?_) (by rw [engine]; exact quiet_rest rest) (by rw [mode]; rfl)
      fun c opens own busy => ?_
    · rw [engine, State.engine_congr (u := w.discarded g 0x02#8) (s := s.setMode g .stuck) (by simp [engines', engines]),
        State.engine_setMode, if_neg (Ne.symm other)]
    · obtain ⟨noRecord, noAsk⟩ := lostNone c opens own
      rw [noRecord, noAsk] at busy
      rcases busy with h | h <;> cases h

theorem State.Linked.becomesStuck (linked : s.Linked) (rest : (s.engine g).mode.isBusy = false) (p : Procedure) (cause : StuckCause) :
    (s.becomeStuck g p cause).Linked ∧ (s.becomeStuck g p cause).Waits := by
  rw [State.becomeStuck_eq]
  exact ⟨(linked.stuck rest p cause).grantRecord, (linked.stuck rest p cause).up.grantRecord_waits⟩

theorem State.Linked.completeRecovery (linked : s.Linked) (g : Seg) (p : Procedure) (o : Code) : (s.completeRecovery g p o).Linked :=
  linked.same (by simp)

theorem State.Linked.pulseOrFail (linked : s.Linked) (rest : (s.engine g).mode.isBusy = false) {p : Procedure}
    (fits : p.pulses ≤ Config.recoveryPulses) : (s.pulseOrFail g p).Linked := by
  refine .ite (fun few => ?_) fun _ => (linked.becomesStuck rest p _).1
  exact linked.setMode rest ⟨fits, nofun, fun _ => few⟩ rfl rfl

theorem State.Linked.recovered (linked : s.Linked) (rest : (s.engine g).mode.isBusy = false) (p : Procedure) :
    (s.recovered g p).Linked :=
  ((linked.setMode (m := .idle) rest trivial rfl rfl).completeRecovery g p .ok).arbiter g

/-! ### The events of a segment -/

theorem Transaction.working_of_timed (timed : x.timed = true) : x.phase ≠ .ackHold := by
  intro phase
  simp [Transaction.timed, phase] at timed

theorem Transaction.working_of_sendsOne (one : x.sendsOne = true) : x.phase ≠ .ackHold := by
  intro phase
  simp [Transaction.sendsOne, phase] at one

/-- What is behind PA+R, and what opens a transaction (R114). -/
theorem Transaction.turning_of_opensWithRead (phase : x.phase = .addressing) (read : x.opensWithRead = true)
    (work : x.work = .request r ∨ x.work = .detached r) : x.Turning r := by
  rw [Transaction.opensWithRead_request work] at read
  exact ⟨.inl phase, by rw [of_decide_eq_true read]; nofun⟩

theorem Transaction.turning_of_restarting (fits : x.Fits) (phase : x.phase = .restarting)
    (work : x.work = .request r ∨ x.work = .detached r) : x.Turning r := by
  have passes : r.kind.passes x.phase = true := by
    rcases work with work | work
    · exact ((Transaction.fits_request work).mp fits).2.2.1
    · exact ((Transaction.fits_detached work).mp fits).2.2.1
  refine ⟨.inr phase, fun kind => ?_⟩
  rw [phase, kind] at passes
  cases passes

/-- What is on the wires is no matter. -/
theorem Transaction.Fits.puts (fits : x.Fits) (o : SegOut) : Transaction.Fits { x with out := o } := by
  cases x
  exact fits

theorem Transaction.work_cases (x : Transaction) :
    x.work = .record ∨ (∃ r, x.work = .request r) ∨ ∃ r, x.work = .detached r := by
  cases x.work <;> simp

theorem exec_busEvent_linked {c : Instr} (own : busSegment c = some g) (linked : s.Linked) (h : exec c s = .next t) : t.Linked := by
  cases c <;> simp only [busSegment, Option.some.injEq, reduceCtorEq] at own <;> subst own <;>
    simp only [exec, execDownstreamStart, execDownstreamAddressAnswer, execDownstreamIndexAnswer, execDownstreamDataAnswer,
      execDownstreamByteReceived, execDownstreamStopMade, execRetryGapExpires, execSegTimeout, execSegConflict,
      execRecoveryOpeningSample, execRecoveryPulse, execRecoveryStopCondition, execRecoverySclLow, Host.Outcome.next.injEq] at h <;>
    subst h
  case downstreamStart g =>
    split
    next x mode =>
      refine .ite (fun _ => ?_) fun _ => linked
      split
      next b _ =>
        have fits := (linked.down.fits mode).puts (.byte b)
        rcases x.work_cases with work | ⟨r, work⟩ | ⟨r, work⟩
        · exact linked.quietly mode (quiet_record work) rfl fits
        · exact linked.requestGoesOn mode work fits work fun _ _ _ attends => ⟨attends.awaits, attends.sent⟩
        · exact linked.quietly mode (quiet_detached work) rfl fits
      next => exact linked
    next => exact linked
  case downstreamAddressAnswer g ack =>
    split
    next x mode =>
      refine .ite (fun ⟨phase, _⟩ => .ite (fun read => ?_) fun write => ?_) fun _ => .ite (fun phase => ?_) fun _ => linked
      · exact linked.answerReadAddress mode (fun _ => Transaction.turning_of_opensWithRead phase read) ack
      · refine linked.answerOpening mode (.inl phase) (fun r work kind => write ?_) ack
        rw [Transaction.opensWithRead_request (.inl work), kind]
        rfl
      · exact linked.answerReadAddress mode (fun _ => Transaction.turning_of_restarting (linked.down.fits mode) phase) ack
    next => exact linked
  case downstreamIndexAnswer g ack =>
    split
    next x mode =>
      refine .ite (fun phase => linked.answerOpening mode (.inr phase) (fun r work kind => ?_) ack) fun _ => linked
      have passes := ((Transaction.fits_request work).mp (linked.down.fits mode)).2.2.1
      rw [phase, kind] at passes
      cases passes
    next => exact linked
  case downstreamDataAnswer g ack =>
    split
    next x mode => exact .ite (fun phase => linked.answerData mode phase ack) fun _ => linked
    next => exact linked
  case downstreamByteReceived g b =>
    split
    next x mode =>
      refine .ite (fun phase => ?_) fun _ => linked
      have same (r : Request) : (s.offered g x r b).engines = s.engines := by
        unfold State.offered
        split <;> simp
      split
      next => exact linked
      next r work =>
        exact (linked.offered mode (.inl work) b).byteHanded (by rw [State.engine_congr (same r)]; exact mode) work phase b
      next r work =>
        exact (linked.offered mode (.inr work) b).quietly (by rw [State.engine_congr (same r)]; exact mode) (quiet_detached work) rfl
          ((linked.down.fits mode).detachedStopped work x.refused (.ninthBit false .reading))
    next => exact linked
  case downstreamStopMade g =>
    split
    next x mode => exact .ite (fun phase => ((linked.stopMade mode phase).grantRecord).arbiter g) fun _ => linked
    next => exact linked
  case retryGapExpires g =>
    split
    next q rest list =>
      refine .ite (fun waits => State.Linked.arbiter ?_ g) fun _ => linked
      exact ⟨linked.down.headWaited list waits, linked.up.same ⟨rfl, rfl, rfl, rfl, rfl, rfl⟩ rfl, linked.addressed.setList g _⟩
    next => exact linked
  case segTimeout g ninth =>
    split
    next x mode =>
      exact .ite (fun timed => (linked.faultReported mode (Transaction.working_of_timed timed) _ _).grantRecord) fun _ => linked
    next => exact linked
  case segConflict g =>
    split
    next x mode =>
      exact .ite (fun one => (linked.faultReported mode (Transaction.working_of_sendsOne one) _ _).grantRecord) fun _ => linked
    next => exact linked
  case recoveryOpeningSample g sda =>
    split
    next p mode =>
      have rest : (s.engine g).mode.isBusy = false := by rw [mode]; rfl
      have fits := (linked.down.segment g).fits
      rw [mode] at fits
      obtain ⟨pulses, opening, -⟩ := fits
      refine .ite (fun step => .ite (fun _ => ?_) fun _ => ?_) fun _ => linked
      · exact linked.setMode rest ⟨pulses, nofun, nofun⟩ rfl rfl
      · exact linked.setMode rest ⟨pulses, nofun, fun _ => (opening step).trans_lt (by decide)⟩ rfl rfl
    next => exact linked
  case recoveryPulse g sda =>
    split
    next p mode =>
      have rest : (s.engine g).mode.isBusy = false := by rw [mode]; rfl
      have fits := (linked.down.segment g).fits
      rw [mode] at fits
      obtain ⟨-, -, further⟩ := fits
      refine .ite (fun step => .ite (fun _ => ?_) fun _ => ?_) fun _ => linked
      · exact linked.setMode rest ⟨further step, nofun, nofun⟩ rfl rfl
      · exact linked.pulseOrFail rest (further step)
    next => exact linked
  case recoveryStopCondition g sda =>
    split
    next p mode =>
      have rest : (s.engine g).mode.isBusy = false := by rw [mode]; rfl
      have fits := (linked.down.segment g).fits
      rw [mode] at fits
      exact .ite (fun _ => .ite (fun _ => linked.recovered rest p) fun _ => linked.pulseOrFail rest fits.1) fun _ => linked
    next => exact linked
  case recoverySclLow g =>
    split
    next p mode => exact (linked.becomesStuck (by rw [mode]; rfl) p _).1
    next => exact linked

/-! ### A write that waits for a record (R82) -/

theorem State.Waits.same (waits : s.Waits) (e : t.lists = s.lists ∧ t.openRecord = s.openRecord ∧ t.recordRequest = s.recordRequest) :
    t.Waits := by
  unfold State.Waits
  rw [State.inUse_congr e.1 e.2.1, e.2.2]
  exact waits

theorem State.Waits.ite {p : Prop} [Decidable p] (h : p → t.Waits) (k : ¬p → u.Waits) : (if p then t else u).Waits := by
  split
  next yes => exact h yes
  next no => exact k no

theorem State.Waits.pulseOrFail (waits : s.Waits) (linked : s.Linked) (rest : (s.engine g).mode.isBusy = false) (p : Procedure) :
    (s.pulseOrFail g p).Waits :=
  .ite (fun _ => waits.same ⟨rfl, rfl, rfl⟩) fun _ => (linked.becomesStuck rest p _).2

theorem exec_busEvent_waits {c : Instr} (own : busSegment c = some g) (linked : s.Linked) (waits : s.Waits)
    (h : exec c s = .next t) : t.Waits := by
  cases c <;> simp only [busSegment, Option.some.injEq, reduceCtorEq] at own <;> subst own <;>
    simp only [exec, execDownstreamStart, execDownstreamAddressAnswer, execDownstreamIndexAnswer, execDownstreamDataAnswer,
      execDownstreamByteReceived, execDownstreamStopMade, execRetryGapExpires, execSegTimeout, execSegConflict,
      execRecoveryOpeningSample, execRecoveryPulse, execRecoveryStopCondition, execRecoverySclLow, Host.Outcome.next.injEq] at h <;>
    subst h
  case downstreamStart g => exact waits.same (by (repeat' split) <;> simp)
  case downstreamAddressAnswer g ack => exact waits.same (by (repeat' split) <;> simp)
  case downstreamIndexAnswer g ack => exact waits.same (by (repeat' split) <;> simp)
  case downstreamDataAnswer g ack => exact waits.same (by (repeat' split) <;> simp)
  case downstreamByteReceived g b => exact waits.same (by (repeat' split) <;> simp)
  case downstreamStopMade g =>
    split
    next x mode => exact .ite (fun phase => (linked.stopMade mode phase).up.grantRecord_waits.arbiter g) fun _ => waits
    next => exact waits
  case retryGapExpires g =>
    split
    next q rest list =>
      refine .ite (fun _ => State.Waits.arbiter (fun asks => ?_) g) fun _ => waits
      have sum := s.inUse_setList g ({ q with state := .queued } :: rest)
      rw [list] at sum
      have length : (({ q with state := .queued } : Record) :: rest).length = (q :: rest).length := rfl
      have full := waits asks
      omega
    next => exact waits
  case segTimeout g ninth =>
    split
    next x mode =>
      exact .ite (fun timed => (linked.faultReported mode (Transaction.working_of_timed timed) _ _).up.grantRecord_waits) fun _ => waits
    next => exact waits
  case segConflict g =>
    split
    next x mode =>
      exact .ite (fun one => (linked.faultReported mode (Transaction.working_of_sendsOne one) _ _).up.grantRecord_waits) fun _ => waits
    next => exact waits
  case recoveryOpeningSample g sda => exact waits.same (by (repeat' split) <;> simp)
  case recoveryPulse g sda =>
    split
    next p mode =>
      exact .ite (fun _ => .ite (fun _ => waits.same ⟨rfl, rfl, rfl⟩) fun _ => waits.pulseOrFail linked (by rw [mode]; rfl) _)
        fun _ => waits
    next => exact waits
  case recoveryStopCondition g sda =>
    split
    next p mode =>
      refine .ite (fun _ => .ite (fun _ => ?_) fun _ => waits.pulseOrFail linked (by rw [mode]; rfl) _) fun _ => waits
      exact State.Waits.arbiter (waits.same (by simp)) g
    next => exact waits
  case recoverySclLow g =>
    split
    next p mode => exact (linked.becomesStuck (by rw [mode]; rfl) p _).2
    next => exact waits

end Sys2Proof.Machine
end

section
/-! PROOFS. The port's events up to the data bytes of a write as the invariants see them (R45, R49 to R54, R62 to R69). -/

namespace Sys2Proof.Machine

variable {s t : State} {c d : Context} {g : Seg} {r : Request} {x : Transaction}

/-! ### Changes of the port alone -/

/-- The items of the segments and of the routes are as before. -/
@[simp] def State.SameWork (s t : State) : Prop :=
  t.active = s.active ∧ t.runtime = s.runtime ∧ t.lists = s.lists ∧ t.engines = s.engines ∧ t.commitMarks = s.commitMarks

theorem State.Free.congr (free : s.Free) (engines : t.engines = s.engines) : t.Free :=
  fun h => by rw [State.engine_congr engines]; exact free h

/-- Without a context the port moves as it likes among the states that have none. -/
theorem State.Linked.shut (linked : s.Linked) (free : s.Free) (e : s.SameWork t) (cache : t.cache = s.cache) (context : t.context = none)
    (opened : t.openRecord = none) (asks : t.recordRequest = none) (frame : t.frame ≠ .noFrame → t.port = .upMgmtWrite)
    (port : t.port ≠ .upIndex ∧ t.port ≠ .upWrite ∧ t.port ≠ .upRead) : t.Linked :=
  ⟨linked.down.same e, .inl ⟨context, frame, opened, asks, port, free.congr e.2.2.2.1⟩,
    linked.addressed.withoutContext ⟨e.1, e.2.1, cache⟩ context⟩

/-- A context without a request is put on the port. -/
theorem State.Linked.opensWith (linked : s.Linked) (free : s.Free) (known : s.Knows d) (e : s.SameWork t) (lines : s.Caches t.cache)
    (context : t.context = some d) (frame : t.frame = .noFrame) (opened : t.openRecord = none) (asks : t.recordRequest = none)
    (absent : d.request = .absent) (stands : d.Stands t.port t.sending none none) : t.Linked := by
  refine ⟨linked.down.same e, ?_, ?_⟩
  · exact (State.Opens.bare context frame opened asks stands (.inl ⟨by rw [absent]; nofun, free.congr e.2.2.2.1⟩)).up
  · refine linked.addressed.close ⟨e.1, e.2.1⟩ (fun y member => ?_) lines
    rw [context] at member
    cases member
    exact known

/-- No context is there where none fits the port's state. -/
theorem State.Linked.closed (linked : s.Linked) (port : ∀ c : Context, ¬c.FitsPort s.port) : s.context = none := by
  cases opened : s.context with
  | none => rfl
  | some c => exact absurd (linked.up.opens opened).stands.port (port c)

theorem State.Opens.free (opens : s.Opens c) (absent : c.request = .absent) : s.Free := by
  rcases opens.engines with ⟨-, free⟩ | ⟨taken, -⟩
  · exact free
  · rw [absent] at taken
    cases taken

theorem State.Shut.noFrame (shut : s.Shut) (port : s.port ≠ .upMgmtWrite) : s.frame = .noFrame := by
  by_contra open_
  exact port (shut.frame open_)

/-! ### Address decisions (R49 to R54) -/

theorem findRoute_valid {a : Tables} {addr : Addr} {i : Slot} (found : findRoute a addr = some i) : a.routes[i].valid = true := by
  have := List.find?_some found
  exact (Bool.and_eq_true_iff.mp this).1

theorem State.knows_newContext {i : Slot} (valid : s.active.routes[i].valid = true) (dir : Direction) : s.Knows (s.newContext i dir) :=
  ⟨rfl, valid, rfl, nofun⟩

/-- The current index of a read address: the Pointer's. -/
theorem State.Addressed.pointer_lt (addressed : s.Addressed) {i : Slot} :
    ((s.slotRuntime i).pointer.getD 0#16).toNat < s.active.routes[i].width.span := by
  cases pointer : (s.slotRuntime i).pointer with
  | none => exact Nat.pow_pos (by decide)
  | some p => exact (addressed.pointer i p pointer).2.2

/-- A request at a read address stands in UP_ADDRESS. -/
theorem Context.Stands.readAddress {sending : Option Byte} (read : c.direction = .read) (target : c.source = .target)
    (follow : c.follow = false) (makes : c.Makes r) (limit : Nat) :
    ({ c with request := .waiting r, hold := some ⟨.readAddress, limit⟩ } : Context).Stands .upAddress sending none none := by
  refine ⟨⟨read, _, rfl, rfl⟩, ⟨fun _ _ _ => nofun, fun h member point => ?_, nofun, fun w => ?_, fun _ => target, fun source => ?_,
    fun source => ?_, fun h => ?_⟩, ⟨nofun, fun ⟨h, member, point⟩ => ?_⟩, nofun, fun q waiting => ?_, nofun⟩
  · cases member; cases point
  · cases read.symm.trans w
  · cases target.symm.trans source
  · cases target.symm.trans source
  · cases follow.symm.trans h
  · cases member; cases point
  · cases waiting; exact makes

theorem Context.makes_readRequest (read : c.direction = .read) : c.Makes c.readRequest := by
  refine ⟨rfl, rfl, rfl, ?_⟩
  rw [read]
  unfold Context.readRequest
  dsimp only
  split <;> exact ⟨nofun, nofun⟩

theorem State.Linked.decodeRead (linked : s.Linked) (shut : s.Shut) (port : s.port = .upAddress) {i : Slot}
    (valid : s.active.routes[i].valid = true) : (s.decodeRead i).Linked ∧ (s.decodeRead i).recordRequest = none := by
  have frame := shut.noFrame (by rw [port]; nofun)
  have requested {c : Context} (known : s.Knows c) (read : c.direction = .read) (target : c.source = .target)
      (follow : c.follow = false) :
      ({ s with answer := .released }.makeRequest c c.readRequest .readAddress).Linked ∧
        ({ s with answer := .released }.makeRequest c c.readRequest .readAddress).recordRequest = none := by
    refine ⟨State.Linked.makeRequest (s := { s with answer := .released }) (linked.down.same ⟨rfl, rfl, rfl, rfl, rfl⟩)
      (linked.addressed.same ⟨rfl, rfl, rfl, rfl⟩) known frame shut.opened shut.asks shut.free ?_,
      State.recordRequest_makeRequest (s := { s with answer := .released }) shut.asks _ _ _⟩
    change Context.Stands _ s.port _ none none
    rw [port]
    exact .readAddress read target follow (Context.makes_readRequest read) _
  have known := State.knows_newContext valid .read
  unfold State.decodeRead
  dsimp only
  split
  next indexed =>
    have width : s.active.routes[i].width ≠ .raw := (IndexWidth.indexed_iff _).mp indexed
    have knownAt : s.Knows { s.newContext i .read with index := some ((s.slotRuntime i).pointer.getD 0#16) } :=
      ⟨known.route, known.valid, known.incarnation, fun k member => by
        cases member; exact ⟨width, linked.addressed.pointer_lt⟩⟩
    split
    next v hit =>
      refine ⟨linked.opensWith shut.free
        (d := { s.newContext i .read with
          index := some ((s.slotRuntime i).pointer.getD 0#16), source := .cache, follow := true })
        ⟨knownAt.route, knownAt.valid, knownAt.incarnation, knownAt.index⟩ ⟨rfl, rfl, rfl, rfl, rfl⟩ ?_ rfl frame shut.opened shut.asks
        rfl (.free ⟨rfl, nofun⟩ rfl rfl nofun (fun _ => width) nofun), shut.asks⟩
      refine linked.addressed.lines.toFront ?_ v
      split at hit
      · rw [hit]; rfl
      · cases hit
    next => exact requested knownAt rfl rfl rfl
  next => exact requested known rfl rfl rfl

theorem State.Linked.decodeRouted (linked : s.Linked) (shut : s.Shut) (port : s.port = .upAddress) {i : Slot}
    (valid : s.active.routes[i].valid = true) (dir : Direction) :
    (s.decodeRouted i dir).Linked ∧ (s.decodeRouted i dir).recordRequest = none := by
  have frame := shut.noFrame (by rw [port]; nofun)
  unfold State.decodeRouted
  split
  next why index _ =>
    have denied : s.SameWork (if s.active.routes[i].logDenials then s.append (denialEntry i (s.slotRuntime i).incarnation
        s.active.routes[i] dir why index) else s).nackAddress := by
      split <;> simp
    refine ⟨linked.shut shut.free denied ?_ ?_ ?_ ?_ (fun open_ => absurd ?_ open_) ⟨nofun, nofun, nofun⟩, ?_⟩
    · dsimp only; split <;> simp
    · dsimp only; split <;> simp [shut.context]
    · dsimp only; split <;> simp [shut.opened]
    · dsimp only; split <;> simp [shut.asks]
    · dsimp only; split <;> simp [frame]
    · dsimp only; split <;> simp [shut.asks]
  next =>
    cases dir with
    | read => exact linked.decodeRead shut port valid
    | write =>
      refine ⟨linked.opensWith shut.free (State.knows_newContext valid .write) ⟨rfl, rfl, rfl, rfl, rfl⟩ linked.addressed.lines rfl frame
        shut.opened shut.asks rfl ?_, shut.asks⟩
      dsimp only
      split
      next indexed =>
        exact .free ⟨rfl, rfl, rfl, (IndexWidth.indexed_iff _).mp indexed, rfl⟩ rfl rfl (fun _ => rfl) nofun nofun
      next => exact .free ⟨rfl, nofun⟩ rfl rfl (fun _ => rfl) nofun nofun

theorem exec_addressDecode_linked {a : Addr} {dir : Direction} (linked : s.Linked) (waits : s.Waits)
    (h : exec (.addressDecode a dir) s = .next t) : t.Linked ∧ t.Waits := by
  cases h
  split
  next decides =>
    obtain ⟨port, closed⟩ := decides
    have shut := linked.up.shut closed
    have frame := shut.noFrame (by rw [port]; nofun)
    have refused : s.nackAddress.Linked ∧ s.nackAddress.Waits :=
      ⟨linked.shut shut.free ⟨rfl, rfl, rfl, rfl, rfl⟩ rfl closed shut.opened shut.asks (fun open_ => absurd frame open_)
        ⟨nofun, nofun, nofun⟩, .of_none shut.asks⟩
    split
    next => exact refused
    next =>
      split
      next =>
        refine ⟨?_, ?_⟩
        · cases dir with
          | write =>
            exact linked.shut shut.free ⟨rfl, rfl, rfl, rfl, rfl⟩ rfl closed shut.opened shut.asks (fun _ => rfl) ⟨nofun, nofun, nofun⟩
          | read =>
            exact linked.shut shut.free ⟨rfl, rfl, rfl, rfl, rfl⟩ rfl closed shut.opened shut.asks (fun open_ => absurd frame open_)
              ⟨nofun, nofun, nofun⟩
        · cases dir with
          | write => exact .of_none shut.asks
          | read => exact .of_none shut.asks
      next =>
        split
        next => exact refused
        next i found =>
          obtain ⟨next, none_⟩ := linked.decodeRouted shut port (findRoute_valid found) dir
          exact ⟨next, .of_none none_⟩
  next => exact ⟨linked, waits⟩

/-! ### Index bytes (R36, R62) -/

theorem joinBytes_zero_lt (b : Byte) : (joinBytes 0#8 b).toNat < 256 := by
  have := b.isLt
  rw [joinBytes_zero, BitVec.toNat_setWidth]
  omega

theorem Context.indexWith_lt (indexed : c.route.width ≠ .raw) (b : Byte) : (c.indexWith b).toNat < c.route.width.span := by
  unfold Context.indexWith
  cases width : c.route.width with
  | raw => exact absurd width indexed
  | one =>
    rw [if_neg (by nofun)]
    exact joinBytes_zero_lt b
  | two => exact (joinBytes _ _).isLt

theorem exec_indexByte_linked {b : Byte} (linked : s.Linked) (waits : s.Waits) (h : exec (.indexByte b) s = .next t) :
    t.Linked ∧ t.Waits := by
  cases opened : s.context with
  | none =>
    have same : exec (.indexByte b) s = .next s := by
      change execIndexByte b s = _
      simp only [execIndexByte, opened]
    rw [same] at h
    cases h
    exact ⟨linked, waits⟩
  | some c =>
    by_cases port : s.port = .upIndex
    · rw [exec_indexByte b opened port] at h
      cases h
      have opens := linked.up.opens opened
      have stands := opens.stands
      have known := linked.known opened
      have fitsPort := stands.port
      rw [port] at fitsPort
      obtain ⟨write, free, absent, width, count⟩ := fitsPort
      have noRecord : s.openRecord = none := by
        cases record : s.openRecord with
        | none => rfl
        | some q =>
          have := (stands.opened q record).2.1
          rw [port] at this
          cases this
      have noAsk := stands.asks_none fun k held => by rw [free] at held; cases held
      have target := stands.fits.2.2.2.2.1 write
      split
      next =>
        refine ⟨linked.opensWith (opens.free absent) (known.alike { c with indexTaken := 1, indexHigh := b } ⟨rfl, rfl, rfl, rfl⟩)
          ⟨rfl, rfl, rfl, rfl, rfl⟩ linked.addressed.lines rfl opens.frame noRecord noAsk absent ?_, .of_none noAsk⟩
        change Context.Stands _ s.port _ none none
        rw [port]
        exact .free ⟨write, free, absent, width, count⟩ free absent (fun _ => target) (fun _ => width) fun read => by
          cases write.symm.trans read
      next =>
        have indexed : s.Knows { c with indexTaken := c.indexTaken + 1, index := some (c.indexWith b), follow := true } :=
          ⟨known.route, known.valid, known.incarnation, fun k member => by cases member; exact ⟨width, c.indexWith_lt width b⟩⟩
        have taken := linked.opensWith (t := { s with
            answer := .ack, port := .upWrite,
            context := some { c with indexTaken := c.indexTaken + 1, index := some (c.indexWith b), follow := true } })
          (opens.free absent) indexed ⟨rfl, rfl, rfl, rfl, rfl⟩ linked.addressed.lines rfl opens.frame noRecord noAsk absent
          (.free ⟨write, by rw [show Context.hold _ = none from free]; nofun⟩ free absent (fun _ => target) (fun _ => width) fun read => by
            cases write.symm.trans read)
        refine ⟨⟨taken.down.setPointer _ _, taken.up.same ⟨rfl, rfl, rfl, rfl, rfl, rfl⟩ rfl, taken.addressed.setPointer _ ?_⟩,
          .of_none noAsk⟩
        exact indexed.points indexed.index
    · have same : exec (.indexByte b) s = .next s := by
        change execIndexByte b s = _
        simp only [execIndexByte, opened, port, if_false]
      rw [same] at h
      cases h
      exact ⟨linked, waits⟩

end Sys2Proof.Machine
end

section
/-! PROOFS. The data bytes of a write as the invariants see them (R63 to R69). -/

namespace Sys2Proof.Machine

variable {s t : State} {c d : Context} {g : Seg} {r : Request} {x : Transaction}

/-! ### Refusals (R44, R65, R67, R68) -/

/-- The port refuses the rest of the write; a denial may be noted. -/
def Context.refuses (c : Context) (noted : Bool) : Context := { c with refusing := true, denialLogged := noted }

theorem Context.Stands.refuses {p : PortState} {sending : Option Byte} {o : Option Record} {a : Option Byte}
    (stands : c.Stands p sending o a) (noted : Bool) : (c.refuses noted).Stands p sending o a := by
  refine ⟨?_, stands.fits, stands.asks, stands.opened, stands.makes, stands.sent⟩
  have := stands.port
  cases p <;> exact this

/-- A write refuses its bytes; its engine, if it has one, ends its transaction or goes on as it was. -/
theorem State.Linked.refuses (linked : s.Linked) (opens : s.Opens c) (write : c.direction = .write) (noted : Bool)
    (port : t.port = s.port ∧ t.sending = s.sending ∧ t.openRecord = s.openRecord ∧ t.recordRequest = s.recordRequest ∧
      t.frame = s.frame) (context : t.context = some (c.refuses noted)) (e : s.SameWork t) (cache : t.cache = s.cache) :
    t.Linked ∧ (c.request = .taken → (t.endEngine c.route.segment).Linked) := by
  obtain ⟨samePort, sending, opened, asks, frame⟩ := port
  have stands := opens.stands.refuses noted
  have engine (h : Seg) : t.engine h = s.engine h := State.engine_congr e.2.2.2.1 h
  have down : t.Down := linked.down.same e
  have known : s.Knows (c.refuses noted) := (linked.known opens.context).alike _ ⟨rfl, rfl, rfl, rfl⟩
  have addressed : t.Addressed := by
    refine linked.addressed.close ⟨e.1, e.2.1⟩ (fun y member => ?_) (by rw [cache]; exact linked.addressed.lines)
    rw [context] at member
    cases member
    exact known
  have refused {x y : Transaction} (attends : c.Attends x s.sending) (same : y.unanswered = x.unanswered) :
      (c.refuses noted).Attends y t.sending := by
    refine Context.Attends.write (c := c.refuses noted) write ?_ fun _ => nofun
    rw [same]
    exact (attends.ofWrite write).1
  have opensT : t.Opens (c.refuses noted) := by
    refine ⟨context, frame.trans opens.frame, by rw [samePort, sending, opened, asks]; exact stands, fun busy => ?_, ?_⟩
    · rw [engine]
      rw [opened, asks] at busy
      exact opens.served busy
    · refine opens.engines.imp (fun ⟨other, none_⟩ => ⟨other, none_.congr e.2.2.2.1⟩) fun ⟨taken, x, r, tied⟩ =>
        ⟨taken, x, r, by rw [engine]; exact tied.mode, tied.work, tied.makes, refused tied.attends rfl, fun h other => ?_⟩
      rw [engine]
      exact tied.others h other
  refine ⟨⟨down, opensT.up, addressed⟩, fun taken => ⟨down.endEngine _, ?_, addressed.endEngine _⟩⟩
  rcases opensT.engines with ⟨other, -⟩ | ⟨-, x, r, tied⟩
  · exact absurd taken other
  · have carries : t.CarriesRequest c.route.segment x r := ⟨tied.mode, tied.work⟩
    obtain ⟨noRecord, noAsk⟩ := opensT.stands.plain (by rw [show (c.refuses noted).request = .taken from taken]; nofun)
    have standsT := opensT.stands
    rw [noRecord, noAsk] at standsT
    rw [State.endEngine_eq carries]
    refine State.Opens.up (c := c.refuses noted) (.bare context opensT.frame noRecord noAsk standsT
      (.inr ⟨taken, x.ended, r, tied.goesOn rfl rfl ?_ tied.makes ?_⟩))
    · unfold Transaction.ended
      split_ifs <;> exact tied.work
    · refine Context.Attends.write (c := c.refuses noted) write ?_ fun _ => nofun
      have same : x.ended.unanswered = x.unanswered := by
        unfold Transaction.ended
        split_ifs <;> rfl
      rw [same]
      exact (tied.attends.ofWrite write).1

theorem State.Linked.refuseByte (linked : s.Linked) (opens : s.Opens c) (write : c.direction = .write) :
    s.refuseByte.Linked := by
  rw [State.refuseByte_eq opens.context]
  exact (linked.refuses opens write c.denialLogged (t := { s with answer := .nack, context := some { c with refusing := true } })
    ⟨rfl, rfl, rfl, rfl, rfl⟩ rfl ⟨rfl, rfl, rfl, rfl, rfl⟩ rfl).1

theorem State.Linked.denyWrite (linked : s.Linked) (opens : s.Opens c) (write : c.direction = .write) :
    (s.denyWrite c).Linked := by
  have logged := State.logDenial_refuseByte opens.context
  have work : s.SameWork (s.logDenial c).refuseByte := by simp
  have cache : (s.logDenial c).refuseByte.cache = s.cache := by simp
  have port : (s.logDenial c).refuseByte.port = s.port ∧ (s.logDenial c).refuseByte.sending = s.sending ∧
      (s.logDenial c).refuseByte.openRecord = s.openRecord ∧ (s.logDenial c).refuseByte.recordRequest = s.recordRequest ∧
      (s.logDenial c).refuseByte.frame = s.frame := by simp
  have context : (s.logDenial c).refuseByte.context =
      some (c.refuses (c.denialLogged || s.active.routes[c.slot].logDenials)) := by rw [logged]; rfl
  obtain ⟨denied, ended⟩ := linked.refuses opens write _ port context work cache
  unfold State.denyWrite
  generalize (s.logDenial c).refuseByte = u at denied ended
  dsimp only
  split
  next taken => exact ended taken
  next => exact denied

theorem State.recordRequest_denyWrite (s : State) (c : Context) : (s.denyWrite c).recordRequest = s.recordRequest := by simp

/-! ### Posted bytes (R63 to R65, R81, R82) -/

theorem State.Linked.acceptPosted (linked : s.Linked) (opens : s.Opens c) (port : s.port = .upWrite) (posted : c.route.mode = .posted)
    (free : c.hold = none) (service : (s.engine c.route.segment).mode.outOfService = false) {x : Record}
    (own : x.state = .opened ∧ x.slot = c.slot ∧ x.incarnation = c.incarnation ∧ x.segment = c.route.segment ∧ x.paddr = c.route.paddr)
    (b : Byte) : (s.acceptPosted c x b).Linked ∧ (s.acceptPosted c x b).recordRequest = none := by
  have stands := opens.stands
  have fitsPort := stands.port
  rw [port] at fitsPort
  obtain ⟨write, -⟩ := fitsPort
  obtain ⟨-, -, -, pass, target, -, -, follow⟩ := stands.fits
  have absent : c.request = .absent := by
    by_contra busy
    cases (pass write busy).symm.trans posted
  have noAsk := stands.asks_none fun k held => by rw [free] at held; cases held
  refine ⟨⟨linked.down.acceptPosted c x b, ?_, linked.addressed.acceptPosted (linked.known opens.context) x b⟩, by simpa using noAsk⟩
  exact State.Up.acceptPosted opens.frame port write free absent (target write) follow noAsk service (opens.free absent)
    ⟨own.1, posted, own.2⟩ b

theorem exec_postedDataByte_linked {b : Byte} (linked : s.Linked) (waits : s.Waits) (h : exec (.postedDataByte b) s = .next t) :
    t.Linked ∧ t.Waits := by
  cases h
  split
  next c opened =>
    split
    next writing =>
      obtain ⟨port, posted, free⟩ := writing
      have opens := linked.up.opens opened
      have stands := opens.stands
      have fitsPort := stands.port
      rw [port] at fitsPort
      obtain ⟨write, -⟩ := fitsPort
      have noAsk := stands.asks_none fun k held => by rw [free] at held; cases held
      have refused : s.refuseByte.Linked ∧ s.refuseByte.Waits :=
        ⟨linked.refuseByte opens write, .of_none (by simpa using noAsk)⟩
      split
      next => exact ⟨linked.same ⟨⟨rfl, rfl, rfl, rfl, rfl, rfl⟩, rfl, rfl, rfl, rfl, rfl, rfl⟩, .of_none noAsk⟩
      next =>
        split
        next => exact ⟨linked.denyWrite opens write, .of_none (by rw [State.recordRequest_denyWrite]; exact noAsk)⟩
        next =>
          split
          next q record =>
            split
            next =>
              obtain ⟨state, -, -, -, own⟩ := stands.opened q record
              obtain ⟨next, none_⟩ := linked.acceptPosted opens port posted free (opens.served (.inl (by rw [record]; rfl)))
                (x := { q with data := q.data ++ [b] }) ⟨state, own⟩ b
              exact ⟨next, .of_none none_⟩
            next => exact refused
          next none_ =>
            split
            next => exact refused
            next service =>
              have inService := Bool.eq_false_iff.mpr service
              split
              next =>
                obtain ⟨next, none_⟩ := linked.acceptPosted opens port posted free inService (x := openedRecord c b)
                  ⟨rfl, rfl, rfl, rfl, rfl⟩ b
                exact ⟨next, .of_none none_⟩
              next full =>
                refine ⟨⟨linked.down.same ⟨rfl, rfl, rfl, rfl, rfl⟩, ?_, ?_⟩, fun _ => not_lt.mp full⟩
                · obtain ⟨-, -, -, pass, target, cache, -, follow⟩ := stands.fits
                  have absent : c.request = .absent := by
                    by_contra busy
                    cases (pass write busy).symm.trans posted
                  refine State.Opens.up (c := { c with hold := some ⟨.postByte, s.holdLimit⟩ })
                    ⟨rfl, opens.frame, ?_, fun _ => inService, .inl ⟨by rw [show Context.request _ = _ from absent]; nofun, opens.free absent⟩⟩
                  change Context.Stands _ s.port _ s.openRecord _
                  rw [port, none_]
                  refine ⟨⟨write, fun k member => by cases member; exact .inr rfl⟩, ⟨fun k member point => ?_, fun _ _ _ => ⟨absent, posted⟩,
                    nofun, fun _ busy => absurd absent busy, target, cache, fun source => ?_, follow⟩, ⟨fun _ => ⟨_, rfl, rfl⟩, fun _ => rfl⟩,
                    nofun, fun q waiting => ?_, nofun⟩
                  · cases member
                    rcases point with h | h | h <;> cases h
                  · cases (target write).symm.trans source
                  · cases absent.symm.trans waiting
                · exact linked.addressed.withContext (linked.known opened) ⟨rfl, rfl, rfl⟩ rfl ⟨rfl, rfl, rfl, rfl⟩
    next => exact ⟨linked, waits⟩
  next => exact ⟨linked, waits⟩

/-! ### Pass-through bytes (R66, R67, R117) -/

/-- A first byte's request stands in UP_WRITE. -/
theorem Context.Stands.passByte {sending : Option Byte} (write : c.direction = .write) (pass : c.route.mode = .pass)
    (target : c.source = .target) (follow : c.follow = true → c.route.width ≠ .raw) {q : RequestState} (busy : q ≠ .absent)
    (makes : ∀ r, q = .waiting r → c.Makes r) (limit : Nat) :
    ({ c with request := q, hold := some ⟨.passByte, limit⟩ } : Context).Stands .upWrite sending none none := by
  refine ⟨⟨write, fun k member => by cases member; exact .inl rfl⟩, ⟨fun _ _ _ => busy, fun k member point => ?_, nofun, fun _ _ => pass,
    fun _ => target, fun source => ?_, fun source => ?_, follow⟩, ⟨nofun, fun ⟨k, member, point⟩ => ?_⟩, nofun, makes, nofun⟩
  · cases member; cases point
  · cases target.symm.trans source
  · cases target.symm.trans source
  · cases member; cases point

theorem Context.makes_writeRequest (write : c.direction = .write) (b : Byte) : c.Makes (c.writeRequest b) :=
  ⟨rfl, rfl, rfl, fun _ => write, fun _ => rfl⟩

/-- A later byte is handed to the engine that waits for it (R67, R117). -/
theorem State.Linked.handWriteByte (linked : s.Linked) (opens : s.Opens c) (port : s.port = .upWrite) (free : c.hold = none)
    (pass : c.route.mode = .pass) (going : c.refusing = false) (taken : c.request = .taken) (b : Byte) :
    (s.handWriteByte c b).Linked ∧ (s.handWriteByte c b).recordRequest = none := by
  have stands := opens.stands
  have fitsPort := stands.port
  rw [port] at fitsPort
  obtain ⟨write, -⟩ := fitsPort
  obtain ⟨noRecord, noAsk⟩ := stands.plain (by rw [taken]; nofun)
  obtain ⟨-, -, -, -, target, -, -, follow⟩ := stands.fits
  refine ⟨?_, by simpa using noAsk⟩
  rcases opens.engines with ⟨other, -⟩ | ⟨-, x, r, tied⟩
  · exact absurd taken other
  · have phase := (tied.attends.ofWrite write).2 free going
    have fits := (linked.down.fits tied.mode).writesOn tied.work phase (x.position + 1)
      (advance c.route.width c.route.autoInc x.writeIndex) b
    have addressed := linked.addressed.handWriteByte (linked.known opens.context) b
    rw [State.handWriteByte_eq b tied.mode phase] at addressed ⊢
    refine ⟨?_, ?_, addressed⟩
    · exact State.Down.goesOn (s := { s with answer := .released, context := some { c with hold := some ⟨.passByte, s.holdLimit⟩ } })
        (linked.down.same ⟨rfl, rfl, rfl, rfl, rfl⟩) tied.mode rfl fits
    · refine State.Opens.up (c := { c with hold := some ⟨.passByte, s.holdLimit⟩ }) (.bare rfl opens.frame noRecord noAsk ?_
        (.inr ⟨taken, _, r, tied.goesOn rfl rfl tied.work tied.makes ?_⟩))
      · change Context.Stands _ s.port _ none none
        rw [port]
        exact .passByte (q := c.request) write pass (target write) follow (by rw [taken]; nofun)
          (fun q waiting => by cases taken.symm.trans waiting) _
      · refine Context.Attends.write (c := { c with hold := some ⟨.passByte, s.holdLimit⟩ }) write ?_ nofun
        exact ⟨fun _ => rfl, fun _ => rfl⟩

theorem exec_passDataByte_linked {b : Byte} (linked : s.Linked) (waits : s.Waits) (h : exec (.passDataByte b) s = .next t) :
    t.Linked ∧ t.Waits := by
  cases h
  split
  next c opened =>
    split
    next writing =>
      obtain ⟨port, pass, free⟩ := writing
      have opens := linked.up.opens opened
      have stands := opens.stands
      have fitsPort := stands.port
      rw [port] at fitsPort
      obtain ⟨write, -⟩ := fitsPort
      have noAsk := stands.asks_none fun k held => by rw [free] at held; cases held
      split
      next => exact ⟨linked.same ⟨⟨rfl, rfl, rfl, rfl, rfl, rfl⟩, rfl, rfl, rfl, rfl, rfl, rfl⟩, .of_none noAsk⟩
      next going =>
        split
        next => exact ⟨linked.denyWrite opens write, .of_none (by rw [State.recordRequest_denyWrite]; exact noAsk)⟩
        next =>
          split
          next taken =>
            obtain ⟨next, none_⟩ := linked.handWriteByte opens port free pass (Bool.eq_false_iff.mpr going) taken b
            exact ⟨next, .of_none none_⟩
          next other =>
            split
            next => exact ⟨linked.refuseByte opens write, .of_none (by simpa using noAsk)⟩
            next =>
              have absent : c.request = .absent := by
                rcases stands.fits.2.2.1 free with h | h
                · exact h
                · exact absurd h other
              have noRecord : s.openRecord = none := by
                cases record : s.openRecord with
                | none => rfl
                | some q =>
                  obtain ⟨-, -, -, posted, -⟩ := stands.opened q record
                  cases pass.symm.trans posted
              obtain ⟨-, -, -, -, target, -, -, follow⟩ := stands.fits
              refine ⟨State.Linked.makeRequest (s := { s with answer := .released }) (linked.down.same ⟨rfl, rfl, rfl, rfl, rfl⟩)
                (linked.addressed.same ⟨rfl, rfl, rfl, rfl⟩) (linked.known opened) opens.frame noRecord noAsk (opens.free absent) ?_,
                .of_none (State.recordRequest_makeRequest (s := { s with answer := .released }) noAsk _ _ _)⟩
              change Context.Stands _ s.port _ none none
              rw [port]
              refine .passByte (q := .waiting (c.writeRequest b)) write pass (target write) follow nofun (fun q waiting => ?_) _
              cases waiting
              exact Context.makes_writeRequest write b
    next => exact ⟨linked, waits⟩
  next => exact ⟨linked, waits⟩

/-! ### Bytes of a management write (R183, R184) -/

theorem exec_mgmtWriteByte_linked {b : Byte} (linked : s.Linked) (waits : s.Waits) (h : exec (.mgmtWriteByte b) s = .next t) :
    t.Linked ∧ t.Waits := by
  cases h
  split
  next port =>
    have closed := linked.closed (by rw [port]; exact fun _ => id)
    have shut := linked.up.shut closed
    split
    next => exact ⟨linked, waits⟩
    next =>
      split
      next =>
        exact ⟨linked.shut shut.free ⟨rfl, rfl, rfl, rfl, rfl⟩ rfl closed shut.opened shut.asks (fun _ => port) shut.port,
          .of_none shut.asks⟩
      next =>
        exact ⟨linked.shut shut.free ⟨rfl, rfl, rfl, rfl, rfl⟩ rfl closed shut.opened shut.asks (fun _ => port) shut.port,
          .of_none shut.asks⟩
    next =>
      exact ⟨linked.shut shut.free ⟨rfl, rfl, rfl, rfl, rfl⟩ rfl closed shut.opened shut.asks (fun _ => port) shut.port,
        .of_none shut.asks⟩
  next => exact ⟨linked, waits⟩

end Sys2Proof.Machine
end

section
/-! PROOFS. The master's answers to the bytes of a read as the invariants see them (R39, R40, R70 to R73, R119 to R121, R192). -/

namespace Sys2Proof.Machine

variable {s t u : State} {c d : Context} {g : Seg} {r : Request} {x : Transaction} {src : Source}

/-! ### Reads that hold for no byte -/

/-- A read that holds for no byte stands in UP_READ where none of the target is being sent. -/
theorem Context.Stands.quietRead {sending : Option Byte} (read : c.direction = .read) (hold : c.hold = none)
    (request : c.request = .absent ∨ c.request = .taken) (cache : c.source = .cache → c.request = .absent)
    (follow : c.follow = true → c.route.width ≠ .raw) (unsent : c.source = .target → sending.isSome = true → False) :
    c.Stands .upRead sending none none := by
  refine ⟨⟨read, by rw [hold]; nofun⟩, ⟨by rw [hold]; nofun, by rw [hold]; nofun, fun _ => request, fun write => ?_, fun write => ?_, cache,
    fun _ => hold, follow⟩, ⟨nofun, by rw [hold]; nofun⟩, nofun, fun q waiting => ?_, fun _ target _ sent => (unsent target sent).elim⟩
  · cases read.symm.trans write
  · cases read.symm.trans write
  · rcases request with h | h <;> cases h.symm.trans waiting

/-- Nothing of the port waits beside a read without a hold. -/
theorem State.Opens.readAlone (opens : s.Opens c) (reads : s.Reads c src) :
    s.openRecord = none ∧ s.recordRequest = none ∧ c.direction = .read := by
  obtain ⟨-, port, hold, -, -⟩ := reads
  have stands := opens.stands
  have fitsPort := stands.port
  rw [port] at fitsPort
  refine ⟨?_, stands.asks_none fun k held => ?_, fitsPort.1⟩
  · cases record : s.openRecord with
    | none => rfl
    | some q =>
      have := (stands.opened q record).2.1
      rw [port] at this
      cases this
  · rw [hold] at held
    cases held

/-- A byte of the target is one that the engine of the request holds. -/
theorem State.Opens.byteHeld (opens : s.Opens c) (reads : s.Reads c .target) :
    c.request = .taken ∧ ∃ x r, s.Tied c x r ∧ x.phase = .ackHold := by
  obtain ⟨-, -, read⟩ := opens.readAlone reads
  obtain ⟨-, port, hold, source, sent⟩ := reads
  have taken := opens.stands.sent port source hold sent
  rcases opens.engines with ⟨other, -⟩ | ⟨-, x, r, tied⟩
  · exact absurd taken other
  · exact ⟨taken, x, r, tied, tied.attends.sent read hold source sent⟩

/-- The engine of a request does nothing, and its context no more than stays awaited. -/
theorem State.Tied.keeps (tied : s.Tied c x r) (engines : t.engines = s.engines) (route : d.route = c.route) (makes : d.Makes r)
    (attends : d.Attends x t.sending) : t.Tied d x r := by
  have engine (h : Seg) : t.engine h = s.engine h := State.engine_congr engines h
  refine ⟨?_, tied.work, makes, attends, fun h other => ?_⟩
  · rw [route, engine]
    exact tied.mode
  · rw [route] at other
    rw [engine]
    exact tied.others h other

theorem State.engines_endEngine (engines : t.engines = s.engines) (g : Seg) : (t.endEngine g).engines = (s.endEngine g).engines := by
  unfold State.endEngine State.setBusy State.setMode State.setEngine
  rw [State.engine_congr engines]
  (repeat' split) <;> simp only [engines]

theorem Transaction.work_ended (x : Transaction) : x.ended.work = x.work := by
  unfold Transaction.ended
  split_ifs <;> rfl

/-- A read goes on without a hold: its engine, if it has one, is ending or makes its orderly end now. -/
theorem State.Linked.readRests (linked : s.Linked) (opens : s.Opens c) (reads : s.Reads c src)
    (alike : d.slot = c.slot ∧ d.route = c.route ∧ d.incarnation = c.incarnation ∧ d.index = c.index ∧ d.direction = c.direction ∧
      d.request = c.request ∧ d.hold = c.hold ∧ d.follow = c.follow)
    (context : t.context = some d) (cache : d.source = .cache → c.request = .absent)
    (unsent : d.source = .target → t.sending.isSome = true → False)
    (port : t.port = s.port ∧ t.frame = s.frame ∧ t.openRecord = s.openRecord ∧ t.recordRequest = s.recordRequest)
    (work : t.active = s.active ∧ t.runtime = s.runtime ∧ t.lists = s.lists ∧ t.commitMarks = s.commitMarks)
    (lines : s.Caches t.cache)
    (engines : t.engines = s.engines ∧ c.source ≠ .target ∨ t.engines = (s.endEngine c.route.segment).engines ∧ c.source = .target) :
    t.Linked := by
  obtain ⟨noRecord, noAsk, read⟩ := opens.readAlone reads
  obtain ⟨slot, route, incarnation, index, direction, request, hold, followed⟩ := alike
  obtain ⟨samePort, frame, opened, asks⟩ := port
  obtain ⟨active, runtime, lists, marks⟩ := work
  have free : d.hold = none := hold.trans reads.2.2.1
  have fits := opens.stands.fits
  have down : t.Down := by
    rcases engines with ⟨same, -⟩ | ⟨ended, -⟩
    · exact linked.down.same ⟨active, runtime, lists, same, marks⟩
    · exact (linked.down.endEngine c.route.segment).same (by simp [active, runtime, lists, marks, ended])
  refine ⟨down, ?_, linked.addressed.close ⟨active, runtime⟩ (fun y member => ?_) lines⟩
  · refine (State.Opens.bare context (frame.trans opens.frame) (opened.trans noRecord) (asks.trans noAsk) ?_ ?_).up
    · rw [samePort, reads.2.1]
      refine .quietRead (direction.trans read) free ?_ (fun source => request.trans (cache source)) ?_ unsent
      · rw [request]
        exact fits.2.2.1 reads.2.2.1
      · rw [followed, route]
        exact fits.2.2.2.2.2.2.2
    · have ends {y : Transaction} (phase : y.phase = .stopping) : d.Attends y t.sending :=
        .byte (direction.trans read) free (.inr ⟨phase, unsent⟩)
      rw [request]
      rcases engines with ⟨same, other⟩ | ⟨ended, source⟩
      · refine opens.engines.imp (fun ⟨free, none_⟩ => ⟨free, none_.congr same⟩) fun ⟨taken, x, r, tied⟩ =>
          ⟨taken, x, r, tied.keeps same route (tied.makes.alike ⟨slot, route, direction⟩) (ends ?_)⟩
        rcases tied.attends.ofByte read reads.2.2.1 with ⟨-, source, -⟩ | stopping
        · exact absurd source other
        · exact stopping
      · have held : s.Reads c .target := ⟨reads.1, reads.2.1, reads.2.2.1, source, reads.2.2.2.2⟩
        obtain ⟨taken, x, r, tied, phase⟩ := opens.byteHeld held
        have carries : s.CarriesRequest c.route.segment x r := ⟨tied.mode, tied.work⟩
        refine .inr ⟨taken, x.ended, r, tied.goesOn ?_ route (x.work_ended.trans tied.work)
          (tied.makes.alike ⟨slot, route, direction⟩) (ends ?_)⟩
        · rw [ended, State.endEngine_eq carries]
          rfl
        · rw [Transaction.ended_of_ackHold phase]
  · rw [context] at member
    cases member
    exact (linked.known opens.context).alike d ⟨slot, route, incarnation, index⟩

/-! ### The byte delivered (R39, R40, R70) -/

/-- A context after a byte delivered. -/
def Context.delivered (c : Context) : Context :=
  match c.source with
  | .filler => { c.counted with follow := false }
  | _ => c.counted

theorem State.context_deliver (s : State) (c : Context) : (s.deliver c).context = some c.delivered := by
  cases source : c.source with
  | filler =>
    rw [State.deliver_filler source]
    simp only [Context.delivered, source]
    rfl
  | _ =>
    rw [State.deliver_eq_countByte (by simp [source]), State.countByte_context]
    simp only [Context.delivered, source]

theorem Context.delivered_alike (c : Context) :
    c.delivered.slot = c.slot ∧ c.delivered.route = c.route ∧ c.delivered.direction = c.direction ∧ c.delivered.request = c.request ∧
      c.delivered.hold = c.hold ∧ c.delivered.source = c.source ∧ (c.delivered.follow = true → c.follow = true) := by
  unfold Context.delivered
  split
  · exact ⟨rfl, rfl, rfl, rfl, rfl, rfl, nofun⟩
  · exact ⟨rfl, rfl, rfl, rfl, rfl, rfl, id⟩

theorem State.Down.deliver (down : s.Down) (c : Context) : (s.deliver c).Down := by
  cases source : c.source with
  | filler =>
    rw [State.deliver_filler source]
    exact State.Down.setPointer (s := { s with context := some { c.counted with follow := false } }) (down.same ⟨rfl, rfl, rfl, rfl, rfl⟩) _ _
  | _ =>
    rw [State.deliver_eq_countByte (by simp [source])]
    exact down.countByte c

/-- A delivered byte moves no more than Count, the index and the Pointer. -/
theorem State.Linked.deliver (linked : s.Linked) (opens : s.Opens c) (reads : s.Reads c src) :
    (s.deliver c).Linked ∧ (s.deliver c).Opens c.delivered ∧ (s.deliver c).Reads c.delivered src := by
  obtain ⟨noRecord, noAsk, read⟩ := opens.readAlone reads
  obtain ⟨slot, route, direction, request, hold, source, follow⟩ := c.delivered_alike
  obtain ⟨-, port, free, its, sent⟩ := reads
  have stands := opens.stands
  obtain ⟨-, -, absent, -, -, cache, -, width⟩ := stands.fits
  have delivered : (s.deliver c).Opens c.delivered := by
    have standing : c.delivered.Stands .upRead s.sending none none := by
      refine ⟨⟨direction.trans read, by rw [hold, free]; nofun⟩, ⟨by rw [hold, free]; nofun, by rw [hold, free]; nofun, fun _ => ?_,
        fun write => ?_, fun write => ?_, fun h => request.trans (cache (source.symm.trans h)), fun _ => hold.trans free, fun h => ?_⟩,
        ⟨nofun, by rw [hold, free]; nofun⟩, nofun, fun q waiting => ?_, fun _ target _ sending => ?_⟩
      · rw [request]; exact absent free
      · cases (direction.trans read).symm.trans write
      · cases (direction.trans read).symm.trans write
      · rw [route]; exact width (follow h)
      · rw [request] at waiting
        rcases absent free with h | h <;> cases h.symm.trans waiting
      · rw [request]; exact stands.sent port (source.symm.trans target) free sending
    refine .bare (s.context_deliver c) (by simp [opens.frame]) (by simp [noRecord]) (by simp [noAsk]) (by simpa [port] using standing) ?_
    rw [request]
    have engines : (s.deliver c).engines = s.engines := by simp
    refine opens.engines.imp (fun ⟨other, none_⟩ => ⟨other, none_.congr engines⟩) fun ⟨taken, x, r, tied⟩ =>
      ⟨taken, x, r, tied.keeps engines route (tied.makes.alike ⟨slot, route, direction⟩) ?_⟩
    refine .byte (direction.trans read) (hold.trans free) ?_
    rw [source, show (s.deliver c).sending = s.sending by simp]
    rcases tied.attends.ofByte read free with holds | stopping
    · exact .inl holds
    · refine .inr ⟨stopping, fun target sending => ?_⟩
      rw [tied.attends.sent read free target sending] at stopping
      cases stopping
  exact ⟨⟨linked.down.deliver c, delivered.up, linked.addressed.deliver (linked.known opens.context)⟩, delivered,
    s.context_deliver c, by simp [port], hold.trans free, source.trans its, by simpa using sent⟩

/-! ### The next byte (R70 to R73, R119, R120) -/

/-- A request for a byte stands in UP_READ. -/
theorem Context.Stands.readByte {sending : Option Byte} (read : c.direction = .read) (target : c.source = .target)
    (follow : c.follow = true → c.route.width ≠ .raw) {q : RequestState} (busy : q ≠ .absent) (makes : ∀ r, q = .waiting r → c.Makes r)
    (limit : Nat) : ({ c with request := q, hold := some ⟨.readByte, limit⟩ } : Context).Stands .upRead sending none none := by
  refine ⟨⟨read, fun k member => by cases member; rfl⟩, ⟨fun _ _ _ => busy, fun k member point => ?_, nofun, fun write => ?_,
    fun _ => target, fun source => ?_, fun source => ?_, follow⟩, ⟨nofun, fun ⟨k, member, point⟩ => ?_⟩, nofun, makes, nofun⟩
  · cases member; cases point
  · cases read.symm.trans write
  · cases target.symm.trans source
  · cases target.symm.trans source
  · cases member; cases point

/-- The engine reads on, and the port holds for its byte. -/
theorem State.Linked.readOn (linked : s.Linked) (opens : s.Opens c) (reads : s.Reads c .target) : (s.readOn c).Linked := by
  obtain ⟨noRecord, noAsk, read⟩ := opens.readAlone reads
  obtain ⟨taken, x, r, tied, phase⟩ := opens.byteHeld reads
  obtain ⟨-, port, -, source, -⟩ := reads
  have fits := (linked.down.fits tied.mode).readsOn tied.work phase
    (if c.route.width = IndexWidth.raw then x.readIndex else advance c.route.width c.route.autoInc x.readIndex)
    (.ninthBit true .ackHold)
  have addressed := linked.addressed.readOn (linked.known opens.context)
  rw [State.readOn_eq tied.mode phase] at addressed ⊢
  refine ⟨?_, ?_, addressed⟩
  · exact State.Down.goesOn (s := { s with sending := none, context := some { c with hold := some ⟨.readByte, s.holdLimit⟩ } })
      (linked.down.same ⟨rfl, rfl, rfl, rfl, rfl⟩) tied.mode rfl fits
  · refine State.Opens.up (c := { c with hold := some ⟨.readByte, s.holdLimit⟩ }) (.bare rfl opens.frame noRecord noAsk ?_
      (.inr ⟨taken, _, r, tied.goesOn rfl rfl tied.work (tied.makes.alike ⟨rfl, rfl, rfl⟩) ?_⟩))
    · change Context.Stands _ s.port _ none none
      rw [port]
      exact .readByte (q := c.request) read source opens.stands.fits.2.2.2.2.2.2.2 (by rw [taken]; nofun)
        (fun q waiting => by cases taken.symm.trans waiting) _
    · exact Context.Attends.hold (c := { c with hold := some ⟨.readByte, s.holdLimit⟩ }) read rfl (.inr (.inr (.inr (.inr ⟨rfl, rfl⟩))))

theorem State.Linked.nextReadByte (linked : s.Linked) (opens : s.Opens c) (reads : s.Reads c src) :
    (s.nextReadByte c).Linked ∧ (s.nextReadByte c).recordRequest = none := by
  obtain ⟨noRecord, noAsk, read⟩ := opens.readAlone reads
  have denial : s.SameWork (s.byteDenied c) ∧ (s.byteDenied c).cache = s.cache ∧ (s.byteDenied c).port = s.port ∧
      (s.byteDenied c).frame = s.frame ∧ (s.byteDenied c).openRecord = s.openRecord ∧
      (s.byteDenied c).recordRequest = s.recordRequest := by
    unfold State.byteDenied
    split <;> simp
  obtain ⟨⟨active, runtime, lists, engines, marks⟩, cache, port, frame, opened, asks⟩ := denial
  have lines : s.Caches (s.byteDenied c).cache := by rw [cache]; exact linked.addressed.lines
  unfold State.nextReadByte
  cases source : c.source with
  | filler =>
    dsimp only
    rw [State.sendFiller_eq opens.context]
    exact ⟨linked.readRests opens reads (d := { c with source := .filler }) ⟨rfl, rfl, rfl, rfl, rfl, rfl, rfl, rfl⟩ rfl nofun nofun
      ⟨rfl, rfl, rfl, rfl⟩ ⟨rfl, rfl, rfl, rfl⟩ linked.addressed.lines (.inl ⟨rfl, by rw [source]; nofun⟩), noAsk⟩
  | cache =>
    have absent := opens.stands.fits.2.2.2.2.2.1 source
    dsimp only
    split
    next =>
      rw [State.logDenial_sendFiller opens.context]
      refine ⟨linked.readRests opens reads (d := { c with
        source := .filler, denialLogged := c.denialLogged || s.active.routes[c.slot].logDenials })
        ⟨rfl, rfl, rfl, rfl, rfl, rfl, rfl, rfl⟩ rfl nofun nofun ⟨port, frame, opened, asks⟩ ⟨active, runtime, lists, marks⟩ lines
        (.inl ⟨engines, by rw [source]; nofun⟩), asks.trans noAsk⟩
    next =>
      split
      next v hit =>
        refine ⟨linked.readRests opens reads (d := c) ⟨rfl, rfl, rfl, rfl, rfl, rfl, rfl, rfl⟩ opens.context (fun _ => absent)
          (fun target => by cases source.symm.trans target) ⟨rfl, rfl, rfl, rfl⟩ ⟨rfl, rfl, rfl, rfl⟩
          (linked.addressed.lines.toFront ?_ v) (.inl ⟨rfl, by rw [source]; nofun⟩), noAsk⟩
        split at hit
        · rw [hit]; rfl
        · cases hit
      next =>
        refine ⟨State.Linked.makeRequest (s := { s with sending := none }) (c := { c with source := .target })
          (linked.down.same ⟨rfl, rfl, rfl, rfl, rfl⟩) (linked.addressed.same ⟨rfl, rfl, rfl, rfl⟩)
          ((linked.known opens.context).alike { c with source := .target } ⟨rfl, rfl, rfl, rfl⟩) opens.frame noRecord noAsk (opens.free absent) ?_,
          State.recordRequest_makeRequest (s := { s with sending := none }) noAsk _ _ _⟩
        change Context.Stands _ s.port _ none none
        rw [reads.2.1]
        refine .readByte (c := { c with source := .target }) (q := .waiting c.readRequest) read rfl
          opens.stands.fits.2.2.2.2.2.2.2 nofun (fun q waiting => ?_) _
        cases waiting
        exact (Context.makes_readRequest read).alike ⟨rfl, rfl, rfl⟩
  | target =>
    have held : s.Reads c .target := ⟨reads.1, reads.2.1, reads.2.2.1, source, reads.2.2.2.2⟩
    dsimp only
    split
    next => exact ⟨linked.readOn opens held, by simpa using noAsk⟩
    next =>
      rw [State.logDenial_sendFiller opens.context]
      refine ⟨linked.readRests opens reads (d := { c with
        source := .filler, denialLogged := c.denialLogged || s.active.routes[c.slot].logDenials })
        ⟨rfl, rfl, rfl, rfl, rfl, rfl, rfl, rfl⟩ (by simp) nofun nofun (by simp [port, frame, opened, asks])
        (by simp [active, runtime, lists, marks]) (by simpa using lines) (.inr ⟨?_, source⟩), by simp [asks, noAsk]⟩
      refine State.engines_endEngine ?_ _
      exact engines

/-- The master's answer to a routed byte. -/
theorem State.Linked.routedReadAnswer (linked : s.Linked) (opens : s.Opens c) (reads : s.Reads c src) (ack : Bool) :
    (s.routedReadAnswer c ack).Linked ∧ (s.routedReadAnswer c ack).recordRequest = none := by
  obtain ⟨delivered, opensNext, readsNext⟩ := linked.deliver opens reads
  obtain ⟨-, route, -, -, -, source, -⟩ := c.delivered_alike
  obtain ⟨-, noAsk, -⟩ := opensNext.readAlone readsNext
  cases ack with
  | true =>
    have next : s.routedReadAnswer c true = (s.deliver c).nextReadByte c.delivered := by
      simp only [State.routedReadAnswer, s.context_deliver c, if_true]
    rw [next]
    exact delivered.nextReadByte opensNext readsNext
  | false =>
    rw [State.routedReadAnswer_nack]
    have rests {t : State} (context : t.context = some c.delivered) (sending : t.sending = none) :=
      delivered.readRests opensNext readsNext (d := c.delivered) (t := t) ⟨rfl, rfl, rfl, rfl, rfl, rfl, rfl, rfl⟩ context
        opensNext.stands.fits.2.2.2.2.2.1 (fun _ sent => by rw [sending] at sent; cases sent)
    split
    next target =>
      refine ⟨rests (by simp [s.context_deliver c]) (by simp) (by simp) (by simp) (by simpa using delivered.addressed.lines)
        (.inr ⟨?_, source.trans target⟩), by simpa using noAsk⟩
      rw [route]
      refine State.engines_endEngine ?_ _
      rfl
    next other =>
      exact ⟨rests (s.context_deliver c) rfl ⟨rfl, rfl, rfl, rfl⟩ ⟨rfl, rfl, rfl, rfl⟩ delivered.addressed.lines
        (.inl ⟨rfl, by rw [source]; exact other⟩), noAsk⟩

theorem exec_readByteAnswer_linked {ack : Bool} (linked : s.Linked) (waits : s.Waits) (h : exec (.readByteAnswer ack) s = .next t) :
    t.Linked ∧ t.Waits := by
  cases h
  split
  next => exact ⟨linked, waits⟩
  next b sent =>
    split
    next port =>
      have closed := linked.closed (by rw [port]; exact fun _ => id)
      have shut := linked.up.shut closed
      split
      all_goals
        exact ⟨linked.shut shut.free ⟨rfl, rfl, rfl, rfl, rfl⟩ rfl closed shut.opened shut.asks shut.frame shut.port, .of_none shut.asks⟩
    next =>
      split
      next port =>
        split
        next c opened =>
          split
          next free =>
            have reads : s.Reads c c.source := ⟨opened, port, free, rfl, by rw [sent]; rfl⟩
            obtain ⟨next, none_⟩ := linked.routedReadAnswer (linked.up.opens opened) reads ack
            exact ⟨next, .of_none none_⟩
          next => exact ⟨linked, waits⟩
        next => exact ⟨linked, waits⟩
      next => exact ⟨linked, waits⟩

end Sys2Proof.Machine
end

section
/-! PROOFS. The ends of a routed sub-transaction as the invariants see them: P, Sr, the hold limit and the idle limit (R46, R58, R76, R77,
R85, R123). -/

namespace Sys2Proof.Machine

variable {s t : State} {c d : Context} {g : Seg} {r : Request} {x : Transaction}

/-! ### No sub-transaction -/

/-- Nothing is open, whatever state the port is in. -/
structure State.Unbound (s : State) : Prop where
  down : s.Down
  addressed : s.Addressed
  context : s.context = none
  opened : s.openRecord = none
  asks : s.recordRequest = none
  free : s.Free

theorem State.Linked.unbound (linked : s.Linked) (closed : s.context = none) : s.Unbound :=
  have shut := linked.up.shut closed
  ⟨linked.down, linked.addressed, closed, shut.opened, shut.asks, shut.free⟩

theorem State.Unbound.same (unbound : s.Unbound) (e : s.SameWork t) (cache : t.cache = s.cache) (context : t.context = none)
    (opened : t.openRecord = none) (asks : t.recordRequest = none) : t.Unbound :=
  ⟨unbound.down.same e, unbound.addressed.withoutContext ⟨e.1, e.2.1, cache⟩ context, context, opened, asks, unbound.free.congr e.2.2.2.1⟩

/-- Then the port is in a state that needs nothing open. -/
theorem State.Unbound.linked (unbound : s.Unbound) (frame : s.frame ≠ .noFrame → s.port = .upMgmtWrite)
    (port : s.port ≠ .upIndex ∧ s.port ≠ .upWrite ∧ s.port ≠ .upRead) : s.Linked :=
  ⟨unbound.down, .inl ⟨unbound.context, frame, unbound.opened, unbound.asks, port, unbound.free⟩, unbound.addressed⟩

/-- The arbiter takes no request where no context has one. -/
theorem State.Unbound.arbiter (unbound : s.Unbound) (g : Seg) : (s.arbiter g).Unbound := by
  have closed {c : Context} (opened : s.context = some c) : False := by
    rw [unbound.context] at opened
    cases opened
  have down := unbound.down.arbiter g fun _ _ opened _ => (closed opened).elim
  have addressed := unbound.addressed.arbiter g
  rcases s.arbiter_cases g with ⟨c, r, -, opened, -⟩ | ⟨q, rest, idle, -, -, takes⟩ | same
  · exact (closed opened).elim
  · rw [takes] at down addressed ⊢
    refine ⟨down, addressed, unbound.context, unbound.opened, unbound.asks, fun h => ?_⟩
    rw [State.engine_setMode]
    split
    · rfl
    · exact unbound.free h
  · rwa [same]

/-! ### A request released (R46, R123) -/

/-- No engine carries the request then. -/
theorem State.Opens.released (opens : s.Opens c) (owed : Bool) : (s.releaseRequest c owed).Free := by
  rcases opens.engines with ⟨other, free⟩ | ⟨taken, x, r, tied⟩
  · rw [State.releaseRequest_eq_self other]
    exact free
  · have carries : s.CarriesRequest c.route.segment x r := ⟨tied.mode, tied.work⟩
    rw [State.releaseRequest_taken taken, State.detachEngine_eq carries]
    intro h
    rw [State.engine_setMode]
    split
    · rfl
    next other => exact tied.others h (Ne.symm other)

theorem State.Down.releaseRequest (down : s.Down) (c : Context) {owed : Bool}
    (owes : owed = true → ∀ x r, (s.engine c.route.segment).mode = .busy x → x.work = .request r → x.unanswered = true) :
    (s.releaseRequest c owed).Down := by
  unfold State.releaseRequest
  split
  · exact down.detachEngine _ owes
  · exact down

/-! ### P and Sr (R46, R85) -/

/-- The route's part of the end leaves nothing open. -/
theorem State.Linked.endRouted (linked : s.Linked) (free : ∀ c, s.context = some c → c.hold = none) : s.endRouted.Unbound := by
  cases opened : s.context with
  | none =>
    have none_ : s.endRouted = s := by simp only [State.endRouted, opened]
    rw [none_]
    exact linked.unbound opened
  | some c =>
    have opens := linked.up.opens opened
    have noAsk := opens.stands.asks_none fun k held => by rw [free c opened] at held; cases held
    cases record : s.openRecord with
    | none =>
      rw [State.endRouted_closed opened record]
      have pointed : (if s.port = .upIndex ∧ c.indexTaken = 1 then s.setPointer c.slot none else s).Linked :=
        .ite (fun _ => ⟨linked.down.setPointer _ _, linked.up.same ⟨rfl, rfl, rfl, rfl, rfl, rfl⟩ rfl,
          linked.addressed.setPointer _ (s.points_none _)⟩) fun _ => linked
      have same : s.SamePort (if s.port = .upIndex ∧ c.indexTaken = 1 then s.setPointer c.slot none else s) := by
        split <;> exact ⟨rfl, rfl, rfl, rfl, rfl, rfl⟩
      generalize (if s.port = .upIndex ∧ c.indexTaken = 1 then s.setPointer c.slot none else s) = u at pointed same ⊢
      obtain ⟨-, context, -, noRecord, asks, -⟩ := same
      have opensU := pointed.up.opens (context.trans opened)
      have down := pointed.down.releaseRequest c (owed := false) nofun
      have addressed := pointed.addressed.releaseRequest c false
      have none_ := opensU.released false
      have left : (u.releaseRequest c false).openRecord = none ∧ (u.releaseRequest c false).recordRequest = none := by
        simp [noRecord, record, asks, noAsk]
      generalize u.releaseRequest c false = v at down addressed none_ left ⊢
      exact ⟨down.same ⟨rfl, rfl, rfl, rfl, rfl⟩, addressed.withoutContext ⟨rfl, rfl, rfl⟩ rfl, rfl, left.1, left.2, none_.congr rfl⟩
    | some q =>
      obtain ⟨-, port, -, -⟩ := opens.stands.opened q record
      obtain ⟨-, -, -, service, incarnation, targets⟩ := linked.openRecord record
      have absent : c.request = .absent := by
        by_contra busy
        cases (opens.stands.plain busy).1.symm.trans record
      have queued : s.endRouted =
          (({ s with context := none, openRecord := none }.setList q.segment (s.list q.segment ++ [{ q with state := .queued }])).setRuntime
            q.slot { s.slotRuntime q.slot with pending := (s.slotRuntime q.slot).pending + 1 }).arbiter q.segment := by
        simp only [State.endRouted, opened]
        rw [if_neg (by simp [port]), State.releaseRequest_eq_self (by simp [absent])]
        simp only [State.queueOpen, record]
        rfl
      have unbound : ({ s with context := none, openRecord := none } : State).Unbound :=
        ⟨linked.down.same ⟨rfl, rfl, rfl, rfl, rfl⟩, linked.addressed.withoutContext ⟨rfl, rfl, rfl⟩ rfl, rfl, rfl, noAsk,
          (opens.free absent).congr rfl⟩
      rw [queued]
      refine State.Unbound.arbiter ?_ _
      constructor
      case down => exact unbound.down.joined incarnation targets service
      case addressed => exact (unbound.addressed.setList _ _).setRuntime _ rfl rfl
      case context => rfl
      case opened => rfl
      case asks => exact noAsk
      case free => exact unbound.free.congr rfl

/-- SCLU is free, so that the context holds for nothing. -/
theorem State.free_of_scluHeld (held : ¬s.scluHeld = true) : ∀ c, s.context = some c → c.hold = none := fun c opened => by
  rw [State.scluHeld_of_context opened] at held
  simpa using held

/-- The end of a routed sub-transaction. -/
theorem State.Linked.endSubTransaction (linked : s.Linked) (held : ¬s.scluHeld = true) (port : s.port ≠ .upMgmtWrite)
    (lines : SegSamples) {next : PortState} (plain : next ≠ .upIndex ∧ next ≠ .upWrite ∧ next ≠ .upRead) :
    (s.endSubTransaction lines next).Linked ∧ (s.endSubTransaction lines next).Waits := by
  have unbound := linked.endRouted (State.free_of_scluHeld held)
  have frame : s.frame = .noFrame := by
    rcases linked.up with shut | ⟨c, opens⟩
    · exact shut.noFrame port
    · exact opens.frame
  have ended : s.endSubTransaction lines next = { s.endRouted with port := next, answer := .released, sending := none } := by
    simp only [State.endSubTransaction, port, if_false]
  rw [ended]
  have moved : ({ s.endRouted with port := next, answer := .released, sending := none } : State).Unbound :=
    unbound.same ⟨rfl, rfl, rfl, rfl, rfl⟩ rfl unbound.context unbound.opened unbound.asks
  refine ⟨moved.linked (fun open_ => ?_) plain, .of_none unbound.asks⟩
  exact absurd ((State.endRouted_frame s).2.2.2.2.2.2.2.2.2.2.2.2.2.2.2.2.1.trans frame) open_

/-! ### The hold limit (R58, R59, R123) -/

theorem exec_holdLimitExpires_linked (linked : s.Linked) (waits : s.Waits) (h : exec .holdLimitExpires s = .next t) :
    t.Linked ∧ t.Waits := by
  cases opened : s.context with
  | none =>
    have same : exec .holdLimitExpires s = .next s := by
      change execHoldLimitExpires s = _
      simp only [execHoldLimitExpires, opened]
    rw [same] at h
    cases h
    exact ⟨linked, waits⟩
  | some c =>
    cases held : c.hold with
    | none =>
      have same : exec .holdLimitExpires s = .next s := by
        change execHoldLimitExpires s = _
        simp only [execHoldLimitExpires, opened, held]
      rw [same] at h
      cases h
      exact ⟨linked, waits⟩
    | some k =>
      obtain ⟨p, limit⟩ := k
      rw [exec_holdLimitExpires opened held] at h
      cases h
      have logged : (if p == .passByte && c.request == .taken then s
          else s.append (holdEntry c p (s.holdReason c p))).Linked ∧ s.SamePort
            (if p == .passByte && c.request == .taken then s else s.append (holdEntry c p (s.holdReason c p))) := by
        split
        · exact ⟨linked, rfl, rfl, rfl, rfl, rfl, rfl⟩
        · exact ⟨linked.same (by simp), by simp⟩
      dsimp only
      generalize (if p == .passByte && c.request == .taken then s else s.append (holdEntry c p (s.holdReason c p))) = u at logged ⊢
      obtain ⟨linkedU, same⟩ := logged
      have opens := linked.up.opens opened
      have opensU := linkedU.up.opens (same.2.1.trans opened)
      have port : s.SamePort (u.releaseRequest c (p == .passByte && c.request == .taken)) := same.trans (by simp)
      have ends : (s.holdEnded c p).SamePort (u.releaseRequest c (p == .passByte && c.request == .taken)).failHold := by
        rw [← State.failHold_eq opened held]
        exact port.failHold
      have asks : (s.holdEnded c p).recordRequest = none := by
        have noAsk (h : p ≠ .postByte) := opens.stands.asks_none fun k other => by rw [held] at other; cases other; exact h
        cases p with
        | passByte | postByte => rfl
        | readAddress | readByte => exact noAsk nofun
      refine ⟨⟨?_, opens.holdEnds held ends ((opensU.released (p == .passByte && c.request == .taken)).congr (by simp)),
          (linkedU.addressed.releaseRequest c _).failHold⟩,
        .of_none (ends.2.2.2.2.1.trans asks)⟩
      refine State.Down.same (s := u.releaseRequest c (p == .passByte && c.request == .taken))
        (linkedU.down.releaseRequest c fun owed x r mode work => ?_) (by simp)
      obtain ⟨pass, taken⟩ := Bool.and_eq_true_iff.mp owed
      obtain rfl := beq_iff_eq.mp pass
      obtain ⟨d, other, -, -, tied⟩ := linkedU.up.carried mode work
      cases (same.2.1.trans opened).symm.trans other.context
      exact (tied.attends.ofWrite ((opens.stands.atHold held).2.2 (.inl rfl)).2).1.mpr (by rw [held]; rfl)

/-! ### The idle limit (R76, R77) -/

theorem State.Linked.abandonWork (linked : s.Linked) (held : ¬s.scluHeld = true) : s.abandonWork.Unbound ∧ s.abandonWork.frame = .noFrame := by
  cases opened : s.context with
  | none =>
    by_cases port : s.port = .upMgmtWrite
    · rw [State.abandonWork_mgmt opened port]
      have unbound := linked.unbound opened
      exact ⟨unbound.same ⟨rfl, rfl, rfl, rfl, rfl⟩ rfl opened unbound.opened unbound.asks, rfl⟩
    · rw [State.abandonWork_closed opened port]
      exact ⟨linked.unbound opened, (linked.up.shut opened).noFrame port⟩
  | some c =>
    have opens := linked.up.opens opened
    have noAsk := opens.stands.asks_none fun k other => by rw [State.free_of_scluHeld held c opened] at other; cases other
    have work : s.abandonWork = { (s.releaseRequest c false).setPointer c.slot none with context := none, openRecord := none } := by
      simp only [State.abandonWork, opened]
    rw [work]
    have down := (linked.down.releaseRequest c (owed := false) nofun).setPointer c.slot none
    have addressed := (linked.addressed.releaseRequest c false).setPointer c.slot (State.points_none _ _)
    have none_ : ((s.releaseRequest c false).setPointer c.slot none).Free := (opens.released false).congr rfl
    have left : ((s.releaseRequest c false).setPointer c.slot none).recordRequest = none ∧
        ((s.releaseRequest c false).setPointer c.slot none).frame = .noFrame := by
      simp [noAsk, opens.frame]
    generalize (s.releaseRequest c false).setPointer c.slot none = v at down addressed none_ left ⊢
    exact ⟨⟨down.same ⟨rfl, rfl, rfl, rfl, rfl⟩, addressed.withoutContext ⟨rfl, rfl, rfl⟩ rfl, rfl, rfl, left.1, none_.congr rfl⟩, left.2⟩

theorem exec_idleLimitExpires_linked (linked : s.Linked) (waits : s.Waits) (h : exec .idleLimitExpires s = .next t) :
    t.Linked ∧ t.Waits := by
  cases h
  split
  next => exact ⟨linked, waits⟩
  next live =>
    obtain ⟨held, -⟩ := not_or.mp live
    split
    next port =>
      have closed := linked.closed (by rw [port]; exact fun _ => id)
      have shut := linked.up.shut closed
      have frame := shut.noFrame (by rw [port]; nofun)
      exact ⟨linked.shut shut.free ⟨rfl, rfl, rfl, rfl, rfl⟩ rfl closed shut.opened shut.asks (fun open_ => absurd frame open_)
        ⟨nofun, nofun, nofun⟩, .of_none shut.asks⟩
    next =>
      obtain ⟨unbound, frame⟩ := linked.abandonWork held
      have idle : ({ s.abandonWork with port := .upIdle, answer := .released, sending := none }.append (abandonEntry s)).Unbound :=
        unbound.same (by simp) (by simp) (by simpa using unbound.context) (by simpa using unbound.opened) (by simpa using unbound.asks)
      exact ⟨idle.linked (fun open_ => absurd (by simpa using frame) open_) (by simp), .of_none idle.asks⟩

end Sys2Proof.Machine
end

section
/-! PROOFS. The management commands as the invariants see them (R13, R22, R25 to R27, R97 to R101, R108, R124 to R129, R146, R156, R163,
R200): they run where no sub-transaction is open, and leave none. -/

namespace Sys2Proof.Machine

variable {s t : State} {g : Seg} {r : Request} {x : Transaction}

/-- Lines go and nothing else changes. -/
theorem State.Unbound.drops (unbound : s.Unbound) (e : s.SameWork t) (lines : s.Caches t.cache)
    (port : t.context = s.context ∧ t.openRecord = s.openRecord ∧ t.recordRequest = s.recordRequest) : t.Unbound := by
  obtain ⟨context, opened, asks⟩ := port
  refine ⟨unbound.down.same e, unbound.addressed.close ⟨e.1, e.2.1⟩ (fun c member => ?_) lines, context.trans unbound.context,
    opened.trans unbound.opened, asks.trans unbound.asks, unbound.free.congr e.2.2.2.1⟩
  rw [context, unbound.context] at member
  cases member

/-- Neither the work nor the cache changes. -/
theorem State.Unbound.kept (unbound : s.Unbound) (e : s.SameWork t) (cache : t.cache = s.cache)
    (port : t.context = s.context ∧ t.openRecord = s.openRecord ∧ t.recordRequest = s.recordRequest) : t.Unbound :=
  unbound.drops e (by rw [cache]; exact unbound.addressed.lines) port

/-- A slot's State is written (R22). -/
theorem State.Unbound.setRuntime (unbound : s.Unbound) (i : Slot) {rt : Runtime} (pointer : rt.pointer = (s.slotRuntime i).pointer)
    (incarnation : rt.incarnation = (s.slotRuntime i).incarnation) (pending : rt.pending = (s.slotRuntime i).pending) :
    (s.setRuntime i rt).Unbound := by
  have runtime (j : Slot) : ((s.setRuntime i rt).slotRuntime j).incarnation = (s.slotRuntime j).incarnation ∧
      ((s.setRuntime i rt).slotRuntime j).pending = (s.slotRuntime j).pending := by
    rw [State.slotRuntime_setRuntime]
    split
    next equal => rw [← equal]; exact ⟨incarnation, pending⟩
    next => exact ⟨rfl, rfl⟩
  refine ⟨⟨fun k => ?_, unbound.down.pending.keep (fun _ => rfl) runtime⟩, unbound.addressed.setRuntime i pointer incarnation,
    unbound.context, unbound.opened, unbound.asks, unbound.free.congr rfl⟩
  exact (s.touches_setRuntime (k + 1) i incarnation).segment (by fin_cases k <;> decide) (unbound.down.segment k)

/-! ### Engines at rest (R108, R126, R127, R146) -/

/-- The settings of an engine change and its state does not (R108). -/
theorem State.Unbound.configured (unbound : s.Unbound) (g : Seg) {e : Engine} (same : e.mode = (s.engine g).mode) :
    (s.setEngine g e).Unbound := by
  have mode (h : Seg) : ((s.setEngine g e).engine h).mode = (s.engine h).mode := by
    rw [State.engine_setEngine]
    split
    next equal => rw [← equal, same]
    next => rfl
  refine ⟨⟨fun h => ?_, unbound.down.pending.same ⟨rfl, rfl⟩⟩, unbound.addressed.same ⟨rfl, rfl, rfl, rfl⟩, unbound.context, unbound.opened,
    unbound.asks, fun h => by rw [mode]; exact unbound.free h⟩
  have own := unbound.down.segment h
  unfold State.SegmentOk at own ⊢
  rw [mode]
  exact own

/-- An engine at rest takes another such state. -/
theorem State.Unbound.setMode (unbound : s.Unbound) {m : EngineMode} (before : (s.engine g).mode.isBusy = false) (fits : m.Fits)
    (rest : m.isBusy = false) (service : m.outOfService = true → s.list g = []) : (s.setMode g m).Unbound := by
  refine ⟨unbound.down.setMode before fits rest service, unbound.addressed.setMode g m, unbound.context, unbound.opened, unbound.asks,
    fun h => ?_⟩
  rw [State.engine_setMode]
  split
  · exact quiet_rest rest
  · exact unbound.free h

theorem fits_sampledMode (l : LineLevels) :
    (sampledMode l).Fits ∧ (sampledMode l).isBusy = false ∧ (sampledMode l).outOfService = false := by
  unfold sampledMode
  split
  · exact ⟨trivial, rfl, rfl⟩
  · exact ⟨Procedure.fits_start false, rfl, rfl⟩

/-- A segment without a record has an empty list. -/
theorem State.Down.list_of_unused (down : s.Down) (unused : s.hasRecords g = false) : s.list g = [] := by
  refine List.eq_nil_iff_forall_not_mem.mpr fun q member => ?_
  rw [(s.hasRecords_iff g).mpr ⟨q, State.mem_records_of_list member, ((down.segment g).queue.listed q member).1⟩] at unused
  cases unused

/-! ### Aborts and discards (R97, R124, R128) -/

/-- An abort reports, and touches the cache and the log alone. -/
theorem State.Unbound.abortEngine (unbound : s.Unbound) (g : Seg) : (s.abortEngine g).Unbound := by
  refine unbound.drops (by simp) ?_ (by simp)
  have addressed : (s.abortEngine g).Addressed := by
    unfold State.abortEngine
    split
    · split
      · exact unbound.addressed
      · exact unbound.addressed.lateUnless _ _
      · exact unbound.addressed.lateUnless _ _
    · exact unbound.addressed
  exact addressed.lines.congr (by simp)

/-- A segment is emptied and its engine leaves its work, whatever that was. -/
theorem State.Unbound.cleared (unbound : s.Unbound) (g : Seg) (cause : Byte) {m : EngineMode} (fits : m.Fits) (rest : m.isBusy = false) :
    ((s.discarded g cause).leaveBusy g m).Unbound := by
  have touches := (s.touches_discarded g cause).trans ((s.discarded g cause).touches_leaveBusy g m)
  refine ⟨unbound.down.update touches ?_ ((unbound.down.pending.discarded g cause).same ⟨rfl, rfl⟩),
    (unbound.addressed.discarded g cause).leaveBusy g m, ?_, ?_, ?_, fun h => ?_⟩
  · unfold State.SegmentOk
    rw [touches.active, show ((s.discarded g cause).leaveBusy g m).incarnations = s.incarnations from funext touches.incarnation,
      State.engine_leaveBusy, if_pos rfl, State.commitMark_leaveBusy, if_pos rfl]
    change Segment _ _ _ ((s.discarded g cause).list g) _ _
    rw [State.list_discarded, if_pos rfl]
    exact .atRest .nil nofun fits rest fun _ => rfl
  · change (s.discarded g cause).context = none
    rw [State.context_discarded, unbound.context]
    rfl
  · change (s.discarded g cause).openRecord = none
    rw [State.openRecord_discarded, unbound.opened]
    rfl
  · change (s.discarded g cause).recordRequest = none
    simpa using unbound.asks
  · rw [State.engine_leaveBusy]
    split
    · exact quiet_rest rest
    · have engines : (s.discarded g cause).engines = s.engines := by simp
      rw [State.engine_congr engines]
      exact unbound.free h

theorem State.Unbound.forceDisable (unbound : s.Unbound) (g : Seg) : (s.forceDisable g).Unbound := by
  unfold State.forceDisable
  rw [State.bulkDiscard_closed (by simpa using unbound.context)]
  exact (unbound.abortEngine g).cleared g _ trivial rfl

/-! ### The segment commands -/

theorem State.Unbound.segConfig (unbound : s.Unbound) (segment speed timeout : Byte) : (cmdSegConfig segment speed timeout s).1.Unbound := by
  unfold cmdSegConfig
  split
  · exact unbound
  next g _ =>
    split
    · split
      next off => exact unbound.configured g off.symm
      · exact unbound
    · exact unbound

theorem State.Unbound.segEnable (unbound : s.Unbound) (segment : Byte) (lines : SegSamples) :
    (cmdSegEnable segment lines s).1.Unbound := by
  unfold cmdSegEnable
  split
  · exact unbound
  next g _ =>
    split
    next off =>
      obtain ⟨fits, rest, service⟩ := fits_sampledMode (levelOf lines g)
      exact unbound.setMode (by rw [off]; rfl) fits rest fun out => by rw [service] at out; cases out
    · exact unbound

theorem State.Unbound.segDisable (unbound : s.Unbound) (segment force : Byte) : (cmdSegDisable segment force s).1.Unbound := by
  unfold cmdSegDisable
  split
  · exact unbound
  next g _ =>
    split
    · exact unbound
    next f _ =>
      split
      · exact unbound
      next stuck =>
        exact unbound.setMode (by rw [stuck]; rfl) trivial rfl fun _ => (unbound.down.segment g).out (by rw [stuck]; rfl)
      next =>
        split
        next rests =>
          obtain ⟨idle, unused⟩ := rests
          exact unbound.setMode (by rw [idle]; rfl) trivial rfl fun _ => unbound.down.list_of_unused unused
        next =>
          split
          · exact unbound.forceDisable g
          · exact unbound

theorem State.Unbound.segRecover (unbound : s.Unbound) (segment : Byte) : (cmdSegRecover segment s).1.Unbound := by
  unfold cmdSegRecover
  split
  · exact unbound
  next g _ =>
    have starts (quiet : (s.engine g).mode.isBusy = false) : (s.setMode g (.recovery (Procedure.start true))).Unbound :=
      unbound.setMode quiet (Procedure.fits_start true) rfl nofun
    split
    next idle => exact starts (by rw [idle]; rfl)
    next stuck => exact starts (by rw [stuck]; rfl)
    · exact unbound

/-! ### WARM_RESTART (R129, R200) -/

theorem Engine.restarted_rests (e : Engine) (l : LineLevels) : (e.restarted l).mode.Fits ∧ (e.restarted l).mode.isBusy = false := by
  unfold Engine.restarted
  split
  next out =>
    rcases out with h | h
    · rw [h]; exact ⟨trivial, rfl⟩
    · rw [h]; exact ⟨trivial, rfl⟩
  next =>
    split
    · exact ⟨trivial, rfl⟩
    · exact ⟨Procedure.fits_start false, rfl⟩

/-- With no record and no transaction left nothing can be amiss. -/
theorem State.unbound_wiped (lists : ∀ g, s.list g = []) (rests : ∀ g, (s.engine g).mode.Fits ∧ (s.engine g).mode.isBusy = false)
    (closed : s.context = none) (opened : s.openRecord = none) (asks : s.recordRequest = none) : s.wiped.Unbound := by
  refine ⟨⟨fun g => ?_, fun i => ?_⟩, ⟨fun i => ?_, fun c member => ?_, nofun⟩, closed, opened, asks, fun g => quiet_rest (rests g).2⟩
  · unfold State.SegmentOk
    rw [show s.wiped.list g = [] from lists g, show s.wiped.engine g = s.engine g from rfl,
      show s.wiped.commitMark g = false from Vector.getElem_replicate _]
    exact .atRest .nil nofun (rests g).1 (rests g).2 fun _ => rfl
  · rw [s.slotRuntime_wiped, State.listed_eq]
    simp [State.sumLists, show ∀ g, s.wiped.list g = [] from lists]
  · rw [s.slotRuntime_wiped]
    exact State.points_none _ _
  · rw [show s.wiped.context = none from closed] at member
    cases member

theorem State.Unbound.warmRestart (unbound : s.Unbound) (lines : SegSamples) : (cmdWarmRestart lines s).1.Unbound := by
  rw [cmdWarmRestart_eq unbound.context]
  refine State.unbound_wiped (s := (s.restarted lines).emptied) (State.list_emptied _) (fun g => ?_) ?_ (State.openRecord_emptied _) ?_
  · have engines : (s.restarted lines).emptied.engines = (s.restarted lines).engines := by simp
    rw [State.engine_congr engines, State.engine_restarted]
    exact Engine.restarted_rests _ _
  · exact State.context_emptied (by simpa using unbound.context)
  · simpa using unbound.asks

/-! ### COMMIT (R13, R25 to R27, R156) -/

/-- A record of a slot's new incarnation stands for a slot whose identity stays. -/
theorem State.identity_of_current (pool : s.PoolOk) {q : Record} (member : q ∈ s.records)
    (current : q.incarnation = (s.committed.slotRuntime q.slot).incarnation) :
    s.active.routes[q.slot].sameIdentity s.staged.routes[q.slot] = true ∧ q.incarnation = (s.slotRuntime q.slot).incarnation := by
  rw [State.slotRuntime_committed] at current
  split at current
  next same => exact ⟨same, current⟩
  next changed =>
    obtain ⟨-, -, -, unused, -⟩ := State.nextIncarnation_spec pool q.slot
    have belongs : s.records.any (·.belongs q.slot (s.nextIncarnation q.slot)) = true :=
      List.any_eq_true.mpr ⟨q, member, (q.belongs_iff _ _).mpr ⟨rfl, current⟩⟩
    rw [State.Unused, belongs] at unused
    cases unused

theorem Tables.Targets.of_identity {a b : Tables} {i : Slot} {pa : Addr} (targets : a.Targets i g pa)
    (same : a.routes[i].sameIdentity b.routes[i] = true) : b.Targets i g pa := by
  obtain ⟨valid, -, segment, paddr, -⟩ := (RouteEntry.sameIdentity_iff _ _).mp same
  obtain ⟨its, own, target⟩ := targets
  exact ⟨valid ▸ its, segment ▸ own, paddr ▸ target⟩

theorem State.Down.committed (down : s.Down) (pool : s.PoolOk) : s.committed.Down := by
  refine ⟨fun g => ?_, fun i => ?_⟩
  · have own := down.segment g
    unfold State.SegmentOk at own ⊢
    rw [State.commitMark_committed]
    have engine : s.committed.engine g = s.engine g := rfl
    have list : s.committed.list g = s.list g := rfl
    rw [engine, list]
    refine ⟨⟨own.queue.listed, own.queue.behind, fun q member current => ?_⟩, own.head, own.out, fun marked => ?_, fun r member => ?_,
      own.fits⟩
    · obtain ⟨same, before⟩ := State.identity_of_current pool (State.mem_records_of_list member) current
      exact (own.queue.named q member before).of_identity same
    · rcases Bool.or_eq_true_iff.mp marked with h | h
      · exact own.marked h
      · exact h
    · refine ⟨(own.route r member).1, fun unmarked => ?_⟩
      obtain ⟨-, quiet⟩ := Bool.or_eq_false_iff.mp unmarked
      cases mode : (s.engine g).mode with
      | busy => rw [mode] at quiet; cases quiet
      | _ => rw [mode] at member; cases member
  · rw [State.slotRuntime_committed]
    change _ = s.listed i _
    split
    next => exact down.pending i
    next =>
      obtain ⟨-, -, -, unused, -⟩ := State.nextIncarnation_spec pool i
      symm
      refine List.countP_eq_zero.mpr fun q member belongs => ?_
      have listed : q ∈ s.records := List.mem_append_left _ member
      rw [State.Unused, List.any_eq_true.mpr ⟨q, listed, belongs⟩] at unused
      cases unused

theorem State.Addressed.committed (addressed : s.Addressed) (closed : s.context = none) : s.committed.Addressed := by
  refine ⟨fun i => ?_, fun c member => ?_, nofun⟩
  · rw [State.slotRuntime_committed]
    split
    next same =>
      intro p member
      obtain ⟨valid, -, -, -, width⟩ := (RouteEntry.sameIdentity_iff _ _).mp same
      have before := addressed.pointer i p member
      rw [valid, width] at before
      exact before
    next => exact State.points_none _ _
  · rw [show s.committed.context = none from closed] at member
    cases member

theorem State.Unbound.commit (unbound : s.Unbound) (pool : s.PoolOk) (expected : Word16) : (cmdCommit expected s).1.Unbound := by
  unfold cmdCommit
  split
  · exact unbound
  · split
    · exact unbound
    · exact ⟨unbound.down.committed pool, unbound.addressed.committed unbound.context, unbound.context, unbound.opened, unbound.asks,
        unbound.free.congr rfl⟩

/-! ### Every command -/

theorem State.Unbound.cacheInvalidate (unbound : s.Unbound) (scope slot : Byte) : (cmdCacheInvalidate scope slot s).1.Unbound := by
  unfold cmdCacheInvalidate
  split
  · exact unbound.drops ⟨rfl, rfl, rfl, rfl, rfl⟩ nofun ⟨rfl, rfl, rfl⟩
  · split
    · exact unbound
    · dsimp only
      split
      · exact unbound.drops ⟨rfl, rfl, rfl, rfl, rfl⟩ (unbound.addressed.lines.sublist List.filter_sublist) ⟨rfl, rfl, rfl⟩
      · exact unbound
  · exact unbound

/-- Staging, and ABANDON, write the staged set alone (R16 to R19). -/
theorem perform_stages {m : MgmtCommand} (lines : SegSamples) (s : State)
    (h : (∃ i e, m = .routeStage i e) ∨ (∃ i, m = .routeUnstage i) ∨ (∃ w l k a c, m = .windowStage w l k a c) ∨ m = .abandon) :
    ∃ staged dirty, (perform m lines s).1 = { s with staged := staged, dirty := dirty } := by
  rcases h with ⟨i, e, rfl⟩ | ⟨i, rfl⟩ | ⟨w, l, k, a, c, rfl⟩ | rfl
  · change ∃ staged dirty, (cmdRouteStage i e s).1 = _
    unfold cmdRouteStage
    (repeat' split) <;> exact ⟨_, _, rfl⟩
  · change ∃ staged dirty, (cmdRouteUnstage i s).1 = _
    unfold cmdRouteUnstage
    split <;> exact ⟨_, _, rfl⟩
  · change ∃ staged dirty, (cmdWindowStage w l k a c s).1 = _
    unfold cmdWindowStage
    (repeat' split) <;> exact ⟨_, _, rfl⟩
  · exact ⟨_, _, rfl⟩

theorem State.Unbound.perform (unbound : s.Unbound) (pool : s.PoolOk) (m : MgmtCommand) (lines : SegSamples) :
    (perform m lines s).1.Unbound := by
  have queries {u : State} (same : u = s) : u.Unbound := same ▸ unbound
  have stages {u : State} (same : ∃ staged dirty, u = { s with staged := staged, dirty := dirty }) : u.Unbound := by
    obtain ⟨staged, dirty, rfl⟩ := same
    exact unbound.kept ⟨rfl, rfl, rfl, rfl, rfl⟩ rfl ⟨rfl, rfl, rfl⟩
  cases m with
  | status => exact unbound
  | setLimits hold idle alert =>
    rcases cmdSetLimits_cases hold idle alert s with same | ⟨h, i, a, -, changed⟩
    · exact queries same
    · exact changed ▸ unbound.kept ⟨rfl, rfl, rfl, rfl, rfl⟩ rfl ⟨rfl, rfl, rfl⟩
  | warmRestart => exact unbound.warmRestart lines
  | routeStage i e => exact stages (perform_stages lines s (.inl ⟨i, e, rfl⟩))
  | routeUnstage i => exact stages (perform_stages lines s (.inr (.inl ⟨i, rfl⟩)))
  | routeQuery i k => exact queries (perform_query_fst lines s (.inr (.inl ⟨i, k, rfl⟩)))
  | windowStage w l k a c => exact stages (perform_stages lines s (.inr (.inr (.inl ⟨w, l, k, a, c, rfl⟩))))
  | windowQuery w k => exact queries (perform_query_fst lines s (.inr (.inr (.inl ⟨w, k, rfl⟩))))
  | commit expected => exact unbound.commit pool expected
  | abandon => exact stages (perform_stages lines s (.inr (.inr (.inr rfl))))
  | routeState i => exact queries (perform_query_fst lines s (.inr (.inr (.inr (.inl ⟨i, rfl⟩)))))
  | routeResume slot =>
    change (cmdRouteResume slot s).1.Unbound
    unfold cmdRouteResume
    split
    · exact unbound
    · exact unbound.setRuntime _ rfl rfl rfl
  | segConfig g speed timeout => exact unbound.segConfig g speed timeout
  | segEnable g => exact unbound.segEnable g lines
  | segDisable g force => exact unbound.segDisable g force
  | segRecover g => exact unbound.segRecover g
  | cacheInvalidate scope slot => exact unbound.cacheInvalidate scope slot
  | cacheProbe g pa i => exact queries (perform_query_fst lines s (.inr (.inr (.inr (.inr (.inl ⟨g, pa, i, rfl⟩))))))
  | logRead k => exact queries (perform_query_fst lines s (.inr (.inr (.inr (.inr (.inr ⟨k, rfl⟩))))))
  | logRelease q =>
    rcases cmdLogRelease_cases q s with same | ⟨k, changed⟩
    · exact queries same
    · exact changed ▸ unbound.kept ⟨rfl, rfl, rfl, rfl, rfl⟩ rfl ⟨rfl, rfl, rfl⟩

end Sys2Proof.Machine
end

section
/-! PROOFS. Every step keeps every invariant: the ends of management writes, the management rows, and the statements on the port, the
queue, the cache and all of State.Ok. -/

namespace Sys2Proof.Machine

variable {s t : State} {g : Seg}

/-! ### Executions (R185 to R188) -/

/-- No command moves the port (R187). -/
theorem perform_port (m : MgmtCommand) (lines : SegSamples) (s : State) : (perform m lines s).1.port = s.port := by
  cases h : configures m with
  | false =>
    cases m
    case status | routeQuery | windowQuery | routeState | cacheProbe | logRead =>
      rw [perform_query_fst lines s (by simp)]
    case warmRestart => simp [perform, cmdWarmRestart]
    case routeResume => simp only [perform, cmdRouteResume]; split <;> rfl
    case segConfig => simp only [perform, cmdSegConfig]; (repeat' split) <;> rfl
    case segEnable => simp only [perform, cmdSegEnable]; (repeat' split) <;> rfl
    case segDisable => simp only [perform, cmdSegDisable]; (repeat' split) <;> simp
    case segRecover => simp only [perform, cmdSegRecover]; (repeat' split) <;> rfl
    case cacheInvalidate => simp only [perform, cmdCacheInvalidate]; (repeat' split) <;> rfl
    all_goals cases h
  | true =>
    cases m
    case setLimits => simp only [perform, cmdSetLimits]; (repeat' split) <;> rfl
    case routeStage => simp only [perform, cmdRouteStage]; (repeat' split) <;> rfl
    case routeUnstage => simp only [perform, cmdRouteUnstage]; split <;> rfl
    case windowStage => simp only [perform, cmdWindowStage]; (repeat' split) <;> rfl
    case abandon => rfl
    case commit => simp only [perform, cmdCommit]; (repeat' split) <;> rfl
    case logRelease => simp only [perform, cmdLogRelease]; split <;> rfl
    all_goals cases h

/-- The response and the end of the frame touch no other unit. -/
theorem State.Unbound.finish {x : State × Reply} (unbound : x.1.Unbound) (tag : Byte) : (State.finish tag x).Unbound :=
  unbound.kept ⟨rfl, rfl, rfl, rfl, rfl⟩ rfl ⟨rfl, rfl, rfl⟩

theorem State.execute_linked {tag : Byte} {f : State → State × Reply} (linked : s.Linked) (waits : s.Waits)
    (unbound : s.Unbound → (f s).1.Unbound) (port : (f s).1.port = s.port) (h : s.execute tag f = .next t) : t.Linked ∧ t.Waits := by
  cases h
  split
  next ready =>
    have closed := ((s.canExecute_iff).mp ready).2
    have done := (unbound (linked.unbound closed)).finish tag
    refine ⟨done.linked (fun open_ => absurd rfl open_) ?_, .of_none done.asks⟩
    rw [show (State.finish tag (f s)).port = s.port from port]
    exact (linked.up.shut closed).port
  next => exact ⟨linked, waits⟩

theorem exec_managementRow_linked (tag : Byte) (lines : SegSamples) (levels : LineLevels) (m : MgmtCommand) (linked : s.Linked)
    (waits : s.Waits) (pool : s.PoolOk) (h : exec (managementRow tag lines levels m) s = .next t) : t.Linked ∧ t.Waits := by
  rw [exec_managementRow] at h
  exact State.execute_linked linked waits (·.perform pool m _) (perform_port m _ s) h

theorem State.execute_code_linked {tag : Byte} {c : Code} (linked : s.Linked) (waits : s.Waits)
    (h : s.execute tag (fun u => (u, replyCode c)) = .next t) : t.Linked ∧ t.Waits :=
  State.execute_linked linked waits id rfl h

/-! ### P and Sr (R46, R47, R185) -/

/-- The end of a frame leaves nothing open. -/
theorem State.Unbound.endFrame (unbound : s.Unbound) (pool : s.PoolOk) (lines : SegSamples) :
    (s.endFrame lines).Unbound ∧ (s.endFrame lines).frame = .noFrame := by
  unfold State.endFrame
  split
  next none_ => exact ⟨unbound, none_⟩
  next =>
    split
    · exact ⟨unbound.kept ⟨rfl, rfl, rfl, rfl, rfl⟩ rfl ⟨rfl, rfl, rfl⟩, rfl⟩
    · exact ⟨State.Unbound.finish (x := (s, replyCode .badLength)) unbound _, rfl⟩
    · exact ⟨State.Unbound.finish (x := (s, replyCode .badCommand)) unbound _, rfl⟩
    next tag m _ => exact ⟨(unbound.perform pool m lines).finish tag, rfl⟩

/-- The end of a sub-transaction, routed or not. -/
theorem State.Linked.ends (linked : s.Linked) (pool : s.PoolOk) (held : ¬s.scluHeld = true) (lines : SegSamples) {next : PortState}
    (plain : next ≠ .upIndex ∧ next ≠ .upWrite ∧ next ≠ .upRead) :
    (s.endSubTransaction lines next).Linked ∧ (s.endSubTransaction lines next).Waits := by
  by_cases port : s.port = .upMgmtWrite
  · obtain ⟨unbound, frame⟩ := (linked.unbound (linked.closed (by rw [port]; exact fun _ => id))).endFrame pool lines
    have ended : s.endSubTransaction lines next = { s.endFrame lines with port := next, answer := .released, sending := none } := by
      simp only [State.endSubTransaction, port, if_true]
    rw [ended]
    have moved : ({ s.endFrame lines with port := next, answer := .released, sending := none } : State).Unbound :=
      unbound.kept ⟨rfl, rfl, rfl, rfl, rfl⟩ rfl ⟨rfl, rfl, rfl⟩
    exact ⟨moved.linked (fun open_ => absurd frame open_) plain, .of_none moved.asks⟩
  · exact linked.endSubTransaction held port lines plain

theorem State.Linked.startCondition (linked : s.Linked) (waits : s.Waits) (pool : s.PoolOk) (lines : SegSamples) :
    (s.startCondition lines).Linked ∧ (s.startCondition lines).Waits := by
  unfold State.startCondition
  split
  next => exact ⟨linked, waits⟩
  next live =>
    split
    next port =>
      have closed := linked.closed (by rw [port]; exact fun _ => id)
      have shut := linked.up.shut closed
      have frame := shut.noFrame (by rw [port]; nofun)
      exact ⟨linked.shut shut.free ⟨rfl, rfl, rfl, rfl, rfl⟩ rfl closed shut.opened shut.asks (fun open_ => absurd frame open_)
        ⟨nofun, nofun, nofun⟩, .of_none shut.asks⟩
    next => exact linked.ends pool (fun held => live (.inl held)) lines ⟨nofun, nofun, nofun⟩

/-! ### Every event -/

/-- Every event but a reset keeps the segments, the port and the addresses together. -/
theorem exec_linked {c : Instr} (linked : s.Linked) (waits : s.Waits) (pool : s.PoolOk) (h : exec c s = .next t) :
    t = s.cleared ∨ t.Linked ∧ t.Waits := by
  have same : s.Linked ∧ s.Waits := ⟨linked, waits⟩
  have bus (g : Seg) (own : busSegment c = some g) : t.Linked ∧ t.Waits :=
    ⟨exec_busEvent_linked own linked h, exec_busEvent_waits own linked waits h⟩
  have row (tag : Byte) (lines : SegSamples) (levels : LineLevels) (m : MgmtCommand) (is : c = managementRow tag lines levels m) :
      t.Linked ∧ t.Waits := exec_managementRow_linked tag lines levels m linked waits pool (is ▸ h)
  cases c
  case powerOnReset => cases h; exact .inl rfl
  case resetAsserted => cases h; exact .inl rfl
  all_goals right
  case resetReleased =>
    cases h
    split
    · exact ⟨linked.same ⟨⟨rfl, rfl, rfl, rfl, rfl, rfl⟩, rfl, rfl, rfl, rfl, rfl, rfl⟩, waits.same ⟨rfl, rfl, rfl⟩⟩
    · exact same
  case startupIntervalEnds =>
    cases h
    split
    · exact ⟨linked.same ⟨⟨rfl, rfl, rfl, rfl, rfl, rfl⟩, rfl, rfl, rfl, rfl, rfl, rfl⟩, waits.same ⟨rfl, rfl, rfl⟩⟩
    · exact same
  case upstreamStart lines => cases h; exact linked.startCondition waits pool lines
  case upstreamRepeatedStart lines => cases h; exact linked.startCondition waits pool lines
  case upstreamStop lines =>
    cases h
    split
    next => exact same
    next live => exact linked.ends pool (fun held => live (.inl held)) lines ⟨nofun, nofun, nofun⟩
  case addressDecode => exact exec_addressDecode_linked linked waits h
  case indexByte => exact exec_indexByte_linked linked waits h
  case postedDataByte => exact exec_postedDataByte_linked linked waits h
  case passDataByte => exact exec_passDataByte_linked linked waits h
  case readByteAnswer => exact exec_readByteAnswer_linked linked waits h
  case mgmtWriteByte => exact exec_mgmtWriteByte_linked linked waits h
  case holdLimitExpires => exact exec_holdLimitExpires_linked linked waits h
  case idleLimitExpires => exact exec_idleLimitExpires_linked linked waits h
  case downstreamStart g => exact bus g rfl
  case downstreamAddressAnswer g _ => exact bus g rfl
  case downstreamIndexAnswer g _ => exact bus g rfl
  case downstreamDataAnswer g _ => exact bus g rfl
  case downstreamByteReceived g _ => exact bus g rfl
  case downstreamStopMade g => exact bus g rfl
  case retryGapExpires g => exact bus g rfl
  case segTimeout g _ => exact bus g rfl
  case segConflict g => exact bus g rfl
  case recoveryOpeningSample g _ => exact bus g rfl
  case recoveryPulse g _ => exact bus g rfl
  case recoveryStopCondition g _ => exact bus g rfl
  case recoverySclLow g => exact bus g rfl
  case badCommand code tag =>
    change execBadCommand code tag s = .next t at h
    unfold execBadCommand at h
    split at h
    · exact State.execute_code_linked linked waits h
    · cases h; exact same
  case badLength frame overrun =>
    change execBadLength frame overrun s = .next t at h
    unfold execBadLength at h
    split at h
    · exact State.execute_code_linked linked waits h
    · cases h; exact same
  case status tag => exact row tag noSamples noLevels .status rfl
  case setLimits tag hold idle alert => exact row tag noSamples noLevels (.setLimits hold idle alert) rfl
  case warmRestart tag lines => exact row tag lines noLevels .warmRestart rfl
  case routeStage tag slot image => exact row tag noSamples noLevels (.routeStage slot image) rfl
  case routeUnstage tag slot => exact row tag noSamples noLevels (.routeUnstage slot) rfl
  case routeQuery tag slot copy => exact row tag noSamples noLevels (.routeQuery slot copy) rfl
  case windowStage tag w low high access cacheable => exact row tag noSamples noLevels (.windowStage w low high access cacheable) rfl
  case windowQuery tag w copy => exact row tag noSamples noLevels (.windowQuery w copy) rfl
  case commit tag expected => exact row tag noSamples noLevels (.commit expected) rfl
  case abandon tag => exact row tag noSamples noLevels .abandon rfl
  case routeState tag slot => exact row tag noSamples noLevels (.routeState slot) rfl
  case routeResume tag slot => exact row tag noSamples noLevels (.routeResume slot) rfl
  case segConfig tag g speed timeout => exact row tag noSamples noLevels (.segConfig g speed timeout) rfl
  case segEnable tag g levels => exact row tag noSamples levels (.segEnable g) rfl
  case segDisable tag g force => exact row tag noSamples noLevels (.segDisable g force) rfl
  case segRecover tag g => exact row tag noSamples noLevels (.segRecover g) rfl
  case cacheInvalidate tag scope slot => exact row tag noSamples noLevels (.cacheInvalidate scope slot) rfl
  case cacheProbe tag g pa index => exact row tag noSamples noLevels (.cacheProbe g pa index) rfl
  case logRead tag k => exact row tag noSamples noLevels (.logRead k) rfl
  case logRelease tag q => exact row tag noSamples noLevels (.logRelease q) rfl

/-! ### The invariants -/

/-- A command taken off the queue leaves everything else. -/
theorem State.Ok.withPending (ok : s.Ok) (rest : List Instr) : ({ s with pending := rest } : State).Ok :=
  have linked := ok.linked
  have waits := ok.waits
  have ⟨reset, log, cache, pool, limits, frame, tables, _⟩ := ok
  State.Linked.ok (linked.same ⟨⟨rfl, rfl, rfl, rfl, rfl, rfl⟩, rfl, rfl, rfl, rfl, rfl, rfl⟩) (waits.same ⟨rfl, rfl, rfl⟩)
    (reset.withPending rest) log cache pool limits frame (tables.congr rfl rfl rfl)

/-- Every command keeps every invariant. -/
theorem exec_ok {c : Instr} (ok : s.Ok) (h : exec c s = .next t) : t.Ok := by
  have linked := ok.linked
  have waits := ok.waits
  obtain ⟨reset, log, cache, pool, limits, frame, tables, -⟩ := ok
  rcases exec_linked linked waits pool h with rfl | ⟨linked, waits⟩
  · exact s.ok_cleared ⟨tables.2.2.1, tables.2.2.2.1⟩
  · obtain ⟨keepsPool, keepsCache, keepsLimits, keepsFrame⟩ := exec_bounded h
    exact linked.ok waits (exec_resetOk reset h) ((exec_log h).1 log) (keepsCache cache) (keepsPool pool) (keepsLimits limits)
      (keepsFrame frame) (exec_tablesOk reset tables h)

/-- Settles O58: a reset gives the reset state, and every other command keeps the segments, the port, the addresses and the single
items. -/
theorem invariantsKept : Obligations.InvariantsKept := by
  intro s t ok h
  rcases step_cases h with rfl | ⟨c, rest, -, run⟩
  · exact ok
  · exact exec_ok (ok.withPending rest) run

/-- Settles O55: the part of O58 on the port and the engines. -/
theorem portAndEnginesKept : Obligations.PortAndEnginesKept := by
  intro s t ok h
  obtain ⟨-, -, -, -, -, -, -, context, -, request, -, -, -, -, -, -, engines, work⟩ := invariantsKept s t ok h
  exact ⟨context, request, engines, work⟩

/-- Settles O56: the part of O58 on the records. -/
theorem queueKept : Obligations.QueueKept := by
  intro s t ok h
  obtain ⟨-, -, -, -, -, -, -, -, queue, -, pending, -, -, -, -, records, -, -⟩ := invariantsKept s t ok h
  exact ⟨queue, records, pending⟩

/-- Settles O57: the part of O58 on Pointers, commit marks, lines and the routes of requests. -/
theorem cacheKept : Obligations.CacheKept := by
  intro s t ok h
  obtain ⟨-, -, -, -, -, -, -, -, -, -, -, pointer, marks, lines, routes, -, -, -⟩ := invariantsKept s t ok h
  exact ⟨pointer, marks, lines, routes⟩

end Sys2Proof.Machine
end
